-- ==== Sys2Proof/Word.lean ====
section
/-! DEFINITION. The words of the block and the names the command set is written in: the unsigned widths of
00_scope.md R5, the operations (30_encoding.md R67), the engines (00_scope.md R2), the repeat form of a
generation command (30_encoding.md R69) and the fault causes (60_exceptions.md R341). -/

namespace Sys2Proof

/-- `u32` of 00_scope.md R5. -/
abbrev U32 := BitVec 32

/-- `u64` of 00_scope.md R5: an operand word, a result word, or a binary64 encoding (R8). -/
abbrev U64 := BitVec 64

/-- `u128` of 00_scope.md R5. -/
abbrev U128 := BitVec 128

/-- The operations of the OP field (30_encoding.md R67). -/
inductive Op where
  | seed
  | seeda
  | gen
  | genr
  | genrc
  | genrr
  | status
  deriving DecidableEq, Repr

/-- The twelve engines (00_scope.md R2, 30_encoding.md R68), in ENG order. -/
inductive Engine where
  | xs32
  | xs64
  | xs128
  | xs64s
  | xs1024s
  | pcg32LcgXshrr
  | pcg32LcgXshrs
  | pcg32McgXshrr
  | pcg32McgXshrs
  | pcg64LcgXslrr
  | pcg64McgXslrr
  | mt64
  deriving DecidableEq, Repr

/-- The repeat form of a generation command (30_encoding.md R69): BULK = 0 is `single`, BULK = 1 with
CNT = n is `bulk n`. `single` and `bulk 1` repeat equally often and are different command words. -/
inductive Repeat where
  | single
  | bulk (n : BitVec 16)
  deriving DecidableEq, Repr

/-- The fault causes of 60_exceptions.md R341, codes 1 to 7 in order. -/
inductive Cause where
  | illegalOp
  | illegalEngine
  | reservedField
  | unsupported
  | emptyKey
  | badKeyLength
  | unseeded
  deriving DecidableEq, Repr

/-- The order of the eight bytes of a 64-bit word on a byte-serial host link (20_memory.md R47). R47 leaves the
order OPEN and lists no values for it: that it is one of these two, and no other order of eight bytes, is the model's
narrowing (DESIGN CHOICE, unsafe, notes/assumptions/13.md). -/
inductive ByteOrder where
  | littleEndian
  | bigEndian
  deriving DecidableEq, Repr, Inhabited

end Sys2Proof
end

