-- ==== Sys2Proof/Syntax.lean ====
section
/-! DEFINITION. The syntax of the command set TPC-1: one constructor for each of the 62 rows of
spec/opcode_table.json (30_encoding.md R75), with the operands 30_encoding.md R72 gives it. -/

namespace Sys2Proof

/-- One valid command. A SEED holds its operand words as delivered (R72: for XS32 the upper 32 bits are
ignored by the meaning, not by the syntax), a SEEDA its key words in order (CNT is their number), a
generation command its repeat form (R69), a GENRR also the words of lo and hi. -/
inductive Instr where
  /-- SEED.XS32, R102. -/
  | seedXs32 (op0 : U64)
  /-- SEED.XS64, R105. -/
  | seedXs64 (op0 : U64)
  /-- SEED.XS128, R109. -/
  | seedXs128 (op0 op1 : U64)
  /-- SEED.XS64S, R112. -/
  | seedXs64s (op0 : U64)
  /-- SEED.PCG32_LCG_XSHRR, R156. -/
  | seedPcg32LcgXshrr (op0 : U64)
  /-- SEED.PCG32_LCG_XSHRS, R158. -/
  | seedPcg32LcgXshrs (op0 : U64)
  /-- SEED.PCG32_MCG_XSHRR, R160. -/
  | seedPcg32McgXshrr (op0 : U64)
  /-- SEED.PCG32_MCG_XSHRS, R162. -/
  | seedPcg32McgXshrs (op0 : U64)
  /-- SEED.PCG64_LCG_XSLRR, R164. -/
  | seedPcg64LcgXslrr (op0 op1 : U64)
  /-- SEED.PCG64_MCG_XSLRR, R166. -/
  | seedPcg64McgXslrr (op0 op1 : U64)
  /-- SEED.MT64, R203. -/
  | seedMt64 (op0 : U64)
  /-- SEEDA.XS1024S, R115. -/
  | seedaXs1024s (key : List U64)
  /-- SEEDA.MT64, R207. -/
  | seedaMt64 (key : List U64)
  /-- GEN.XS32, R103. -/
  | genXs32 (rep : Repeat)
  /-- GEN.XS64, R106. -/
  | genXs64 (rep : Repeat)
  /-- GEN.XS128, R110. -/
  | genXs128 (rep : Repeat)
  /-- GEN.XS64S, R113. -/
  | genXs64s (rep : Repeat)
  /-- GEN.XS1024S, R116. -/
  | genXs1024s (rep : Repeat)
  /-- GEN.PCG32_LCG_XSHRR, R157. -/
  | genPcg32LcgXshrr (rep : Repeat)
  /-- GEN.PCG32_LCG_XSHRS, R159. -/
  | genPcg32LcgXshrs (rep : Repeat)
  /-- GEN.PCG32_MCG_XSHRR, R161. -/
  | genPcg32McgXshrr (rep : Repeat)
  /-- GEN.PCG32_MCG_XSHRS, R163. -/
  | genPcg32McgXshrs (rep : Repeat)
  /-- GEN.PCG64_LCG_XSLRR, R165. -/
  | genPcg64LcgXslrr (rep : Repeat)
  /-- GEN.PCG64_MCG_XSLRR, R167. -/
  | genPcg64McgXslrr (rep : Repeat)
  /-- GEN.MT64, R208. -/
  | genMt64 (rep : Repeat)
  /-- GENR.XS32, R260. -/
  | genrXs32 (rep : Repeat)
  /-- GENR.XS64, R261. -/
  | genrXs64 (rep : Repeat)
  /-- GENR.XS128, R262. -/
  | genrXs128 (rep : Repeat)
  /-- GENR.XS64S, R263. -/
  | genrXs64s (rep : Repeat)
  /-- GENR.XS1024S, R264. -/
  | genrXs1024s (rep : Repeat)
  /-- GENR.PCG32_LCG_XSHRR, R265. -/
  | genrPcg32LcgXshrr (rep : Repeat)
  /-- GENR.PCG32_LCG_XSHRS, R266. -/
  | genrPcg32LcgXshrs (rep : Repeat)
  /-- GENR.PCG32_MCG_XSHRR, R267. -/
  | genrPcg32McgXshrr (rep : Repeat)
  /-- GENR.PCG32_MCG_XSHRS, R268. -/
  | genrPcg32McgXshrs (rep : Repeat)
  /-- GENR.PCG64_LCG_XSLRR, R269. -/
  | genrPcg64LcgXslrr (rep : Repeat)
  /-- GENR.PCG64_MCG_XSLRR, R270. -/
  | genrPcg64McgXslrr (rep : Repeat)
  /-- GENR.MT64, R271. -/
  | genrMt64 (rep : Repeat)
  /-- GENRC.XS32, R272. -/
  | genrcXs32 (rep : Repeat)
  /-- GENRC.XS64, R273. -/
  | genrcXs64 (rep : Repeat)
  /-- GENRC.XS128, R274. -/
  | genrcXs128 (rep : Repeat)
  /-- GENRC.XS64S, R275. -/
  | genrcXs64s (rep : Repeat)
  /-- GENRC.XS1024S, R276. -/
  | genrcXs1024s (rep : Repeat)
  /-- GENRC.PCG32_LCG_XSHRR, R277. -/
  | genrcPcg32LcgXshrr (rep : Repeat)
  /-- GENRC.PCG32_LCG_XSHRS, R278. -/
  | genrcPcg32LcgXshrs (rep : Repeat)
  /-- GENRC.PCG32_MCG_XSHRR, R279. -/
  | genrcPcg32McgXshrr (rep : Repeat)
  /-- GENRC.PCG32_MCG_XSHRS, R280. -/
  | genrcPcg32McgXshrs (rep : Repeat)
  /-- GENRC.PCG64_LCG_XSLRR, R281. -/
  | genrcPcg64LcgXslrr (rep : Repeat)
  /-- GENRC.PCG64_MCG_XSLRR, R282. -/
  | genrcPcg64McgXslrr (rep : Repeat)
  /-- GENRC.MT64, R283. -/
  | genrcMt64 (rep : Repeat)
  /-- GENRR.XS32, R284. -/
  | genrrXs32 (rep : Repeat) (lo hi : U64)
  /-- GENRR.XS64, R285. -/
  | genrrXs64 (rep : Repeat) (lo hi : U64)
  /-- GENRR.XS128, R286. -/
  | genrrXs128 (rep : Repeat) (lo hi : U64)
  /-- GENRR.XS64S, R287. -/
  | genrrXs64s (rep : Repeat) (lo hi : U64)
  /-- GENRR.XS1024S, R288. -/
  | genrrXs1024s (rep : Repeat) (lo hi : U64)
  /-- GENRR.PCG32_LCG_XSHRR, R289. -/
  | genrrPcg32LcgXshrr (rep : Repeat) (lo hi : U64)
  /-- GENRR.PCG32_LCG_XSHRS, R290. -/
  | genrrPcg32LcgXshrs (rep : Repeat) (lo hi : U64)
  /-- GENRR.PCG32_MCG_XSHRR, R291. -/
  | genrrPcg32McgXshrr (rep : Repeat) (lo hi : U64)
  /-- GENRR.PCG32_MCG_XSHRS, R292. -/
  | genrrPcg32McgXshrs (rep : Repeat) (lo hi : U64)
  /-- GENRR.PCG64_LCG_XSLRR, R293. -/
  | genrrPcg64LcgXslrr (rep : Repeat) (lo hi : U64)
  /-- GENRR.PCG64_MCG_XSLRR, R294. -/
  | genrrPcg64McgXslrr (rep : Repeat) (lo hi : U64)
  /-- GENRR.MT64, R295. -/
  | genrrMt64 (rep : Repeat) (lo hi : U64)
  /-- STATUS, R330. -/
  | status
  deriving DecidableEq, Repr

end Sys2Proof
end

