-- ==== Sys2Proof/WellFormed.lean ====
section
/-! DEFINITION. Which terms of `Instr` are commands. Every operand is a word of fixed width, so the one check
is the length of a SEEDA key: CNT has 16 bits (30_encoding.md R66), so a key has at most 65535 words
(42_mt64.md R210). A key of length 0, or of a length other than 16 for XS1024S, is a well-formed command that
faults (R207, R115). -/

namespace Sys2Proof

/-- The key fits the 16-bit CNT field (42_mt64.md R210). -/
def keyExpressible (key : List U64) : Bool :=
  decide (key.length ≤ 65535)

/-- The term is a command the block can be given. -/
def Instr.wellFormed : Instr → Bool
  | .seedaXs1024s key => keyExpressible key
  | .seedaMt64 key => keyExpressible key
  | .seedXs32 _ => true
  | .seedXs64 _ => true
  | .seedXs128 _ _ => true
  | .seedXs64s _ => true
  | .seedPcg32LcgXshrr _ => true
  | .seedPcg32LcgXshrs _ => true
  | .seedPcg32McgXshrr _ => true
  | .seedPcg32McgXshrs _ => true
  | .seedPcg64LcgXslrr _ _ => true
  | .seedPcg64McgXslrr _ _ => true
  | .seedMt64 _ => true
  | .genXs32 _ => true
  | .genXs64 _ => true
  | .genXs128 _ => true
  | .genXs64s _ => true
  | .genXs1024s _ => true
  | .genPcg32LcgXshrr _ => true
  | .genPcg32LcgXshrs _ => true
  | .genPcg32McgXshrr _ => true
  | .genPcg32McgXshrs _ => true
  | .genPcg64LcgXslrr _ => true
  | .genPcg64McgXslrr _ => true
  | .genMt64 _ => true
  | .genrXs32 _ => true
  | .genrXs64 _ => true
  | .genrXs128 _ => true
  | .genrXs64s _ => true
  | .genrXs1024s _ => true
  | .genrPcg32LcgXshrr _ => true
  | .genrPcg32LcgXshrs _ => true
  | .genrPcg32McgXshrr _ => true
  | .genrPcg32McgXshrs _ => true
  | .genrPcg64LcgXslrr _ => true
  | .genrPcg64McgXslrr _ => true
  | .genrMt64 _ => true
  | .genrcXs32 _ => true
  | .genrcXs64 _ => true
  | .genrcXs128 _ => true
  | .genrcXs64s _ => true
  | .genrcXs1024s _ => true
  | .genrcPcg32LcgXshrr _ => true
  | .genrcPcg32LcgXshrs _ => true
  | .genrcPcg32McgXshrr _ => true
  | .genrcPcg32McgXshrs _ => true
  | .genrcPcg64LcgXslrr _ => true
  | .genrcPcg64McgXslrr _ => true
  | .genrcMt64 _ => true
  | .genrrXs32 _ _ _ => true
  | .genrrXs64 _ _ _ => true
  | .genrrXs128 _ _ _ => true
  | .genrrXs64s _ _ _ => true
  | .genrrXs1024s _ _ _ => true
  | .genrrPcg32LcgXshrr _ _ _ => true
  | .genrrPcg32LcgXshrs _ _ _ => true
  | .genrrPcg32McgXshrr _ _ _ => true
  | .genrrPcg32McgXshrs _ _ _ => true
  | .genrrPcg64LcgXslrr _ _ _ => true
  | .genrrPcg64McgXslrr _ _ _ => true
  | .genrrMt64 _ _ _ => true
  | .status => true

end Sys2Proof
end

