-- ==== Sys2Proof/Decode.lean ====
section
/-! DEFINITION. The command encoding of 30_encoding.md: the fields of the command word (R66 to R69), the
number of operand words (R71), checks 1 to 5 of 60_exceptions.md R342, the operand assembly (R72), and the
encoder, written from the same tables. -/

namespace Sys2Proof

/-! ### Field codes -/

/-- The OP values of 30_encoding.md R67; 0x0 and 0x8 to 0xF are reserved. -/
def opOfCode (c : BitVec 4) : Option Op :=
  match c with
  | 0x1#4 => some .seed
  | 0x2#4 => some .seeda
  | 0x3#4 => some .gen
  | 0x4#4 => some .genr
  | 0x5#4 => some .genrc
  | 0x6#4 => some .genrr
  | 0x7#4 => some .status
  | _ => none

/-- The OP value of an operation (R67). -/
def opCode : Op → BitVec 4
  | .seed => 0x1#4
  | .seeda => 0x2#4
  | .gen => 0x3#4
  | .genr => 0x4#4
  | .genrc => 0x5#4
  | .genrr => 0x6#4
  | .status => 0x7#4

/-- The ENG values of 30_encoding.md R68; 12 to 15 are reserved. -/
def engineOfCode (c : BitVec 4) : Option Engine :=
  match c with
  | 0#4 => some .xs32
  | 1#4 => some .xs64
  | 2#4 => some .xs128
  | 3#4 => some .xs64s
  | 4#4 => some .xs1024s
  | 5#4 => some .pcg32LcgXshrr
  | 6#4 => some .pcg32LcgXshrs
  | 7#4 => some .pcg32McgXshrr
  | 8#4 => some .pcg32McgXshrs
  | 9#4 => some .pcg64LcgXslrr
  | 10#4 => some .pcg64McgXslrr
  | 11#4 => some .mt64
  | _ => none

/-- The ENG value of an engine (R68). -/
def engineCode : Engine → BitVec 4
  | .xs32 => 0#4
  | .xs64 => 1#4
  | .xs128 => 2#4
  | .xs64s => 3#4
  | .xs1024s => 4#4
  | .pcg32LcgXshrr => 5#4
  | .pcg32LcgXshrs => 6#4
  | .pcg32McgXshrr => 7#4
  | .pcg32McgXshrs => 8#4
  | .pcg64LcgXslrr => 9#4
  | .pcg64McgXslrr => 10#4
  | .mt64 => 11#4

/-- The status code of a cause (60_exceptions.md R341); 0 is OK. -/
def causeCode : Cause → BitVec 4
  | .illegalOp => 1#4
  | .illegalEngine => 2#4
  | .reservedField => 3#4
  | .unsupported => 4#4
  | .emptyKey => 5#4
  | .badKeyLength => 6#4
  | .unseeded => 7#4

/-! ### The command word (R66) -/

/-- OP, bits [3:0]. -/
def opField (w : U32) : BitVec 4 := w.extractLsb' 0 4

/-- ENG, bits [7:4]. -/
def engField (w : U32) : BitVec 4 := w.extractLsb' 4 4

/-- RSVD, bits [14:8]. -/
def rsvdField (w : U32) : BitVec 7 := w.extractLsb' 8 7

/-- BULK, bit [15]. -/
def bulkField (w : U32) : BitVec 1 := w.extractLsb' 15 1

/-- CNT, bits [31:16]. -/
def cntField (w : U32) : BitVec 16 := w.extractLsb' 16 16

/-- The command word with the given fields and RSVD = 0 (R66). -/
def mkWord (op : Op) (e : Engine) (bulk : BitVec 1) (cnt : BitVec 16) : U32 :=
  cnt ++ bulk ++ 0#7 ++ engineCode e ++ opCode op

/-- The repeat form a generation command's word carries (R69). -/
def repeatOf (w : U32) : Repeat :=
  if bulkField w = 1#1 then .bulk (cntField w) else .single

/-- BULK of a repeat form (R69). -/
def repeatBulk : Repeat → BitVec 1
  | .single => 0#1
  | .bulk _ => 1#1

/-- CNT of a repeat form (R69). -/
def repeatCnt : Repeat → BitVec 16
  | .single => 0#16
  | .bulk n => n

/-! ### Checks 1 to 4 of R342 -/

/-- Check 2: ENG is 0 to 11, and 0 for STATUS (R68). -/
def engineFor (op : Op) (c : BitVec 4) : Option Engine :=
  if op = .status ∧ c ≠ 0#4 then none else engineOfCode c

/-- Check 3: the reserved fields are zero (R69, R70; the RESERVED_FIELD row of R341). -/
def reservedOk (op : Op) (w : U32) : Bool :=
  decide (rsvdField w = 0#7) &&
    match op with
    | .seed => decide (bulkField w = 0#1) && decide (cntField w = 0#16)
    | .status => decide (bulkField w = 0#1) && decide (cntField w = 0#16)
    | .seeda => decide (bulkField w = 0#1)
    | .gen => decide (bulkField w = 1#1) || decide (cntField w = 0#16)
    | .genr => decide (bulkField w = 1#1) || decide (cntField w = 0#16)
    | .genrc => decide (bulkField w = 1#1) || decide (cntField w = 0#16)
    | .genrr => decide (bulkField w = 1#1) || decide (cntField w = 0#16)

/-- Check 4: the (OP, ENG) pairs marked in 30_encoding.md R75. -/
def pairOk (op : Op) (e : Engine) : Bool :=
  match op with
  | .seed => decide (e ≠ .xs1024s)
  | .seeda => decide (e = .xs1024s) || decide (e = .mt64)
  | .gen => true
  | .genr => true
  | .genrc => true
  | .genrr => true
  | .status => decide (e = .xs32)

/-- Checks 1 to 4 in order: the first that fails gives the cause (R342, R346); else the operation and the
engine the word names. -/
def checkWord (w : U32) : Except Cause (Op × Engine) :=
  match opOfCode (opField w) with
  | none => .error .illegalOp
  | some op =>
    match engineFor op (engField w) with
    | none => .error .illegalEngine
    | some e =>
      if reservedOk op w = false then .error .reservedField
      else if pairOk op e = false then .error .unsupported
      else .ok (op, e)

/-! ### Operands (R71, R72) -/

/-- The operand-word count n of a word that passes checks 1 to 4 (30_encoding.md R71). -/
def operandCount (op : Op) (e : Engine) (cnt : BitVec 16) : Nat :=
  match op with
  | .seed =>
    match e with
    | .xs128 => 2
    | .pcg64LcgXslrr => 2
    | .pcg64McgXslrr => 2
    | .xs32 => 1
    | .xs64 => 1
    | .xs64s => 1
    | .xs1024s => 1
    | .pcg32LcgXshrr => 1
    | .pcg32LcgXshrs => 1
    | .pcg32McgXshrr => 1
    | .pcg32McgXshrs => 1
    | .mt64 => 1
  | .seeda => cnt.toNat
  | .gen => 0
  | .genr => 0
  | .genrc => 0
  | .genrr => 2
  | .status => 0

/-- The SEED command of an engine from its operand words (R72). -/
def buildSeed : Engine → List U64 → Option Instr
  | .xs32, [a] => some (.seedXs32 a)
  | .xs64, [a] => some (.seedXs64 a)
  | .xs128, [a, b] => some (.seedXs128 a b)
  | .xs64s, [a] => some (.seedXs64s a)
  | .pcg32LcgXshrr, [a] => some (.seedPcg32LcgXshrr a)
  | .pcg32LcgXshrs, [a] => some (.seedPcg32LcgXshrs a)
  | .pcg32McgXshrr, [a] => some (.seedPcg32McgXshrr a)
  | .pcg32McgXshrs, [a] => some (.seedPcg32McgXshrs a)
  | .pcg64LcgXslrr, [a, b] => some (.seedPcg64LcgXslrr a b)
  | .pcg64McgXslrr, [a, b] => some (.seedPcg64McgXslrr a b)
  | .mt64, [a] => some (.seedMt64 a)
  | _, _ => none

/-- The SEEDA command of an engine from its key words (R72: key[j] = op[j]). -/
def buildSeeda : Engine → List U64 → Option Instr
  | .xs1024s, key => some (.seedaXs1024s key)
  | .mt64, key => some (.seedaMt64 key)
  | _, _ => none

/-- The GEN command of an engine. -/
def buildGen (rep : Repeat) : Engine → Instr
  | .xs32 => .genXs32 rep
  | .xs64 => .genXs64 rep
  | .xs128 => .genXs128 rep
  | .xs64s => .genXs64s rep
  | .xs1024s => .genXs1024s rep
  | .pcg32LcgXshrr => .genPcg32LcgXshrr rep
  | .pcg32LcgXshrs => .genPcg32LcgXshrs rep
  | .pcg32McgXshrr => .genPcg32McgXshrr rep
  | .pcg32McgXshrs => .genPcg32McgXshrs rep
  | .pcg64LcgXslrr => .genPcg64LcgXslrr rep
  | .pcg64McgXslrr => .genPcg64McgXslrr rep
  | .mt64 => .genMt64 rep

/-- The GENR command of an engine. -/
def buildGenr (rep : Repeat) : Engine → Instr
  | .xs32 => .genrXs32 rep
  | .xs64 => .genrXs64 rep
  | .xs128 => .genrXs128 rep
  | .xs64s => .genrXs64s rep
  | .xs1024s => .genrXs1024s rep
  | .pcg32LcgXshrr => .genrPcg32LcgXshrr rep
  | .pcg32LcgXshrs => .genrPcg32LcgXshrs rep
  | .pcg32McgXshrr => .genrPcg32McgXshrr rep
  | .pcg32McgXshrs => .genrPcg32McgXshrs rep
  | .pcg64LcgXslrr => .genrPcg64LcgXslrr rep
  | .pcg64McgXslrr => .genrPcg64McgXslrr rep
  | .mt64 => .genrMt64 rep

/-- The GENRC command of an engine. -/
def buildGenrc (rep : Repeat) : Engine → Instr
  | .xs32 => .genrcXs32 rep
  | .xs64 => .genrcXs64 rep
  | .xs128 => .genrcXs128 rep
  | .xs64s => .genrcXs64s rep
  | .xs1024s => .genrcXs1024s rep
  | .pcg32LcgXshrr => .genrcPcg32LcgXshrr rep
  | .pcg32LcgXshrs => .genrcPcg32LcgXshrs rep
  | .pcg32McgXshrr => .genrcPcg32McgXshrr rep
  | .pcg32McgXshrs => .genrcPcg32McgXshrs rep
  | .pcg64LcgXslrr => .genrcPcg64LcgXslrr rep
  | .pcg64McgXslrr => .genrcPcg64McgXslrr rep
  | .mt64 => .genrcMt64 rep

/-- The GENRR command of an engine (R72: lo = op[0], hi = op[1]). -/
def buildGenrr (rep : Repeat) (lo hi : U64) : Engine → Instr
  | .xs32 => .genrrXs32 rep lo hi
  | .xs64 => .genrrXs64 rep lo hi
  | .xs128 => .genrrXs128 rep lo hi
  | .xs64s => .genrrXs64s rep lo hi
  | .xs1024s => .genrrXs1024s rep lo hi
  | .pcg32LcgXshrr => .genrrPcg32LcgXshrr rep lo hi
  | .pcg32LcgXshrs => .genrrPcg32LcgXshrs rep lo hi
  | .pcg32McgXshrr => .genrrPcg32McgXshrr rep lo hi
  | .pcg32McgXshrs => .genrrPcg32McgXshrs rep lo hi
  | .pcg64LcgXslrr => .genrrPcg64LcgXslrr rep lo hi
  | .pcg64McgXslrr => .genrrPcg64McgXslrr rep lo hi
  | .mt64 => .genrrMt64 rep lo hi

/-- The command of an operation and engine with these operand words (R72); none where their number is not
the one R71 fixes. -/
def build (op : Op) (e : Engine) (w : U32) (ops : List U64) : Option Instr :=
  match op, ops with
  | .seed, ops => buildSeed e ops
  | .seeda, ops => buildSeeda e ops
  | .gen, [] => some (buildGen (repeatOf w) e)
  | .genr, [] => some (buildGenr (repeatOf w) e)
  | .genrc, [] => some (buildGenrc (repeatOf w) e)
  | .genrr, [lo, hi] => some (buildGenrr (repeatOf w) lo hi e)
  | .status, [] => some .status
  | _, _ => none

/-- What the decoder makes of one transaction: a command, a fault of checks 1 to 4 (the operand words are
then discarded, R71), or a number of operand words the host protocol forbids (check 5, R399). -/
inductive Decoded where
  | instr (i : Instr)
  | fault (c : Cause)
  | wrongOperandCount
  deriving DecidableEq, Repr

/-- Decode one transaction, a command word and the operand words delivered with it: checks 1 to 5 of
60_exceptions.md R342. Total: every word and every list of operand words has an answer. -/
def decode (w : U32) (ops : List U64) : Decoded :=
  match checkWord w with
  | .error c => .fault c
  | .ok (op, e) =>
    if ops.length = operandCount op e (cntField w) then
      match build op e w ops with
      | some i => .instr i
      | none => .wrongOperandCount
    else .wrongOperandCount

/-! ### The encoder -/

/-- CNT of a key: its length (R69), in 16 bits. -/
def keyCnt (key : List U64) : BitVec 16 := BitVec.ofNat 16 key.length

/-- The command word of a command (R66 to R69). -/
def encodeWord : Instr → U32
  | .seedXs32 _ => mkWord .seed .xs32 0#1 0#16
  | .seedXs64 _ => mkWord .seed .xs64 0#1 0#16
  | .seedXs128 _ _ => mkWord .seed .xs128 0#1 0#16
  | .seedXs64s _ => mkWord .seed .xs64s 0#1 0#16
  | .seedPcg32LcgXshrr _ => mkWord .seed .pcg32LcgXshrr 0#1 0#16
  | .seedPcg32LcgXshrs _ => mkWord .seed .pcg32LcgXshrs 0#1 0#16
  | .seedPcg32McgXshrr _ => mkWord .seed .pcg32McgXshrr 0#1 0#16
  | .seedPcg32McgXshrs _ => mkWord .seed .pcg32McgXshrs 0#1 0#16
  | .seedPcg64LcgXslrr _ _ => mkWord .seed .pcg64LcgXslrr 0#1 0#16
  | .seedPcg64McgXslrr _ _ => mkWord .seed .pcg64McgXslrr 0#1 0#16
  | .seedMt64 _ => mkWord .seed .mt64 0#1 0#16
  | .seedaXs1024s key => mkWord .seeda .xs1024s 0#1 (keyCnt key)
  | .seedaMt64 key => mkWord .seeda .mt64 0#1 (keyCnt key)
  | .genXs32 rep => mkWord .gen .xs32 (repeatBulk rep) (repeatCnt rep)
  | .genXs64 rep => mkWord .gen .xs64 (repeatBulk rep) (repeatCnt rep)
  | .genXs128 rep => mkWord .gen .xs128 (repeatBulk rep) (repeatCnt rep)
  | .genXs64s rep => mkWord .gen .xs64s (repeatBulk rep) (repeatCnt rep)
  | .genXs1024s rep => mkWord .gen .xs1024s (repeatBulk rep) (repeatCnt rep)
  | .genPcg32LcgXshrr rep => mkWord .gen .pcg32LcgXshrr (repeatBulk rep) (repeatCnt rep)
  | .genPcg32LcgXshrs rep => mkWord .gen .pcg32LcgXshrs (repeatBulk rep) (repeatCnt rep)
  | .genPcg32McgXshrr rep => mkWord .gen .pcg32McgXshrr (repeatBulk rep) (repeatCnt rep)
  | .genPcg32McgXshrs rep => mkWord .gen .pcg32McgXshrs (repeatBulk rep) (repeatCnt rep)
  | .genPcg64LcgXslrr rep => mkWord .gen .pcg64LcgXslrr (repeatBulk rep) (repeatCnt rep)
  | .genPcg64McgXslrr rep => mkWord .gen .pcg64McgXslrr (repeatBulk rep) (repeatCnt rep)
  | .genMt64 rep => mkWord .gen .mt64 (repeatBulk rep) (repeatCnt rep)
  | .genrXs32 rep => mkWord .genr .xs32 (repeatBulk rep) (repeatCnt rep)
  | .genrXs64 rep => mkWord .genr .xs64 (repeatBulk rep) (repeatCnt rep)
  | .genrXs128 rep => mkWord .genr .xs128 (repeatBulk rep) (repeatCnt rep)
  | .genrXs64s rep => mkWord .genr .xs64s (repeatBulk rep) (repeatCnt rep)
  | .genrXs1024s rep => mkWord .genr .xs1024s (repeatBulk rep) (repeatCnt rep)
  | .genrPcg32LcgXshrr rep => mkWord .genr .pcg32LcgXshrr (repeatBulk rep) (repeatCnt rep)
  | .genrPcg32LcgXshrs rep => mkWord .genr .pcg32LcgXshrs (repeatBulk rep) (repeatCnt rep)
  | .genrPcg32McgXshrr rep => mkWord .genr .pcg32McgXshrr (repeatBulk rep) (repeatCnt rep)
  | .genrPcg32McgXshrs rep => mkWord .genr .pcg32McgXshrs (repeatBulk rep) (repeatCnt rep)
  | .genrPcg64LcgXslrr rep => mkWord .genr .pcg64LcgXslrr (repeatBulk rep) (repeatCnt rep)
  | .genrPcg64McgXslrr rep => mkWord .genr .pcg64McgXslrr (repeatBulk rep) (repeatCnt rep)
  | .genrMt64 rep => mkWord .genr .mt64 (repeatBulk rep) (repeatCnt rep)
  | .genrcXs32 rep => mkWord .genrc .xs32 (repeatBulk rep) (repeatCnt rep)
  | .genrcXs64 rep => mkWord .genrc .xs64 (repeatBulk rep) (repeatCnt rep)
  | .genrcXs128 rep => mkWord .genrc .xs128 (repeatBulk rep) (repeatCnt rep)
  | .genrcXs64s rep => mkWord .genrc .xs64s (repeatBulk rep) (repeatCnt rep)
  | .genrcXs1024s rep => mkWord .genrc .xs1024s (repeatBulk rep) (repeatCnt rep)
  | .genrcPcg32LcgXshrr rep => mkWord .genrc .pcg32LcgXshrr (repeatBulk rep) (repeatCnt rep)
  | .genrcPcg32LcgXshrs rep => mkWord .genrc .pcg32LcgXshrs (repeatBulk rep) (repeatCnt rep)
  | .genrcPcg32McgXshrr rep => mkWord .genrc .pcg32McgXshrr (repeatBulk rep) (repeatCnt rep)
  | .genrcPcg32McgXshrs rep => mkWord .genrc .pcg32McgXshrs (repeatBulk rep) (repeatCnt rep)
  | .genrcPcg64LcgXslrr rep => mkWord .genrc .pcg64LcgXslrr (repeatBulk rep) (repeatCnt rep)
  | .genrcPcg64McgXslrr rep => mkWord .genrc .pcg64McgXslrr (repeatBulk rep) (repeatCnt rep)
  | .genrcMt64 rep => mkWord .genrc .mt64 (repeatBulk rep) (repeatCnt rep)
  | .genrrXs32 rep _ _ => mkWord .genrr .xs32 (repeatBulk rep) (repeatCnt rep)
  | .genrrXs64 rep _ _ => mkWord .genrr .xs64 (repeatBulk rep) (repeatCnt rep)
  | .genrrXs128 rep _ _ => mkWord .genrr .xs128 (repeatBulk rep) (repeatCnt rep)
  | .genrrXs64s rep _ _ => mkWord .genrr .xs64s (repeatBulk rep) (repeatCnt rep)
  | .genrrXs1024s rep _ _ => mkWord .genrr .xs1024s (repeatBulk rep) (repeatCnt rep)
  | .genrrPcg32LcgXshrr rep _ _ => mkWord .genrr .pcg32LcgXshrr (repeatBulk rep) (repeatCnt rep)
  | .genrrPcg32LcgXshrs rep _ _ => mkWord .genrr .pcg32LcgXshrs (repeatBulk rep) (repeatCnt rep)
  | .genrrPcg32McgXshrr rep _ _ => mkWord .genrr .pcg32McgXshrr (repeatBulk rep) (repeatCnt rep)
  | .genrrPcg32McgXshrs rep _ _ => mkWord .genrr .pcg32McgXshrs (repeatBulk rep) (repeatCnt rep)
  | .genrrPcg64LcgXslrr rep _ _ => mkWord .genrr .pcg64LcgXslrr (repeatBulk rep) (repeatCnt rep)
  | .genrrPcg64McgXslrr rep _ _ => mkWord .genrr .pcg64McgXslrr (repeatBulk rep) (repeatCnt rep)
  | .genrrMt64 rep _ _ => mkWord .genrr .mt64 (repeatBulk rep) (repeatCnt rep)
  | .status => mkWord .status .xs32 0#1 0#16

/-- The operand words of a command (R71, R72). -/
def encodeOps : Instr → List U64
  | .seedXs32 op0 => [op0]
  | .seedXs64 op0 => [op0]
  | .seedXs128 op0 op1 => [op0, op1]
  | .seedXs64s op0 => [op0]
  | .seedPcg32LcgXshrr op0 => [op0]
  | .seedPcg32LcgXshrs op0 => [op0]
  | .seedPcg32McgXshrr op0 => [op0]
  | .seedPcg32McgXshrs op0 => [op0]
  | .seedPcg64LcgXslrr op0 op1 => [op0, op1]
  | .seedPcg64McgXslrr op0 op1 => [op0, op1]
  | .seedMt64 op0 => [op0]
  | .seedaXs1024s key => key
  | .seedaMt64 key => key
  | .genXs32 _ => []
  | .genXs64 _ => []
  | .genXs128 _ => []
  | .genXs64s _ => []
  | .genXs1024s _ => []
  | .genPcg32LcgXshrr _ => []
  | .genPcg32LcgXshrs _ => []
  | .genPcg32McgXshrr _ => []
  | .genPcg32McgXshrs _ => []
  | .genPcg64LcgXslrr _ => []
  | .genPcg64McgXslrr _ => []
  | .genMt64 _ => []
  | .genrXs32 _ => []
  | .genrXs64 _ => []
  | .genrXs128 _ => []
  | .genrXs64s _ => []
  | .genrXs1024s _ => []
  | .genrPcg32LcgXshrr _ => []
  | .genrPcg32LcgXshrs _ => []
  | .genrPcg32McgXshrr _ => []
  | .genrPcg32McgXshrs _ => []
  | .genrPcg64LcgXslrr _ => []
  | .genrPcg64McgXslrr _ => []
  | .genrMt64 _ => []
  | .genrcXs32 _ => []
  | .genrcXs64 _ => []
  | .genrcXs128 _ => []
  | .genrcXs64s _ => []
  | .genrcXs1024s _ => []
  | .genrcPcg32LcgXshrr _ => []
  | .genrcPcg32LcgXshrs _ => []
  | .genrcPcg32McgXshrr _ => []
  | .genrcPcg32McgXshrs _ => []
  | .genrcPcg64LcgXslrr _ => []
  | .genrcPcg64McgXslrr _ => []
  | .genrcMt64 _ => []
  | .genrrXs32 _ lo hi => [lo, hi]
  | .genrrXs64 _ lo hi => [lo, hi]
  | .genrrXs128 _ lo hi => [lo, hi]
  | .genrrXs64s _ lo hi => [lo, hi]
  | .genrrXs1024s _ lo hi => [lo, hi]
  | .genrrPcg32LcgXshrr _ lo hi => [lo, hi]
  | .genrrPcg32LcgXshrs _ lo hi => [lo, hi]
  | .genrrPcg32McgXshrr _ lo hi => [lo, hi]
  | .genrrPcg32McgXshrs _ lo hi => [lo, hi]
  | .genrrPcg64LcgXslrr _ lo hi => [lo, hi]
  | .genrrPcg64McgXslrr _ lo hi => [lo, hi]
  | .genrrMt64 _ lo hi => [lo, hi]
  | .status => []

/-- The words of a command: its command word, then its operand words in order (R65). -/
def encode (i : Instr) : U32 × List U64 :=
  (encodeWord i, encodeOps i)

/-! ### A transaction given as one number -/

/-- The command word of a transaction given as one number: bits 31 to 0 of its low `nbits` bits. -/
def tableCommandWord (nbits w : Nat) : U32 := BitVec.ofNat 32 (w % 2 ^ nbits)

/-- The operand words from bit 32 on, `n` of them, the first lowest (notes/assumptions/19.md). -/
def tableOperands (bits : Nat) : Nat → List U64
  | 0 => []
  | n + 1 => BitVec.ofNat 64 bits :: tableOperands (bits / 2 ^ 64) n

/-- How many operand words the command word calls for; none where it fails checks 1 to 4 (R71). -/
def wordOperandCount (w : U32) : Nat :=
  match checkWord w with
  | .error _ => 0
  | .ok (op, e) => operandCount op e (cntField w)

/-- The operand words of a transaction given as one number; bits above `nbits` are 0. -/
def tableOperandWords (nbits w : Nat) : List U64 :=
  tableOperands (w % 2 ^ nbits / 2 ^ 32) (wordOperandCount (tableCommandWord nbits w))

/-- The command the decoder reads from a transaction whose bits are `w`, numbered from the command word's
least significant bit, bits above `nbits` zero; none where the decoder does not answer a command. -/
def decodeTableWord (nbits w : Nat) : Option Instr :=
  match decode (tableCommandWord nbits w) (tableOperandWords nbits w) with
  | .instr i => some i
  | .fault _ => none
  | .wrongOperandCount => none

end Sys2Proof
end

