-- ==== Sys2Proof/Config.lean ====
section
/-! DEFINITION. What an implementation of the block fixes: the configuration record of 00_scope.md R4 (its
values, the profiles, stand in Sys2Proof/Machine/Profiles.lean), and the two values the spec leaves open, as
constants with no body. -/

namespace Sys2Proof

/-- The parameters of 00_scope.md R4, one field each, under the spec's names. Shift amounts and counts are
numbers, masks, multipliers and binary64 constants are words. -/
structure Params where
  /-- XS32_A, XS32_B, XS32_C (40_xorshift.md R101). -/
  xs32A : Nat
  xs32B : Nat
  xs32C : Nat
  /-- XS64_A, XS64_B, XS64_C (R104). -/
  xs64A : Nat
  xs64B : Nat
  xs64C : Nat
  /-- XS128_A, XS128_B, XS128_C (R108). -/
  xs128A : Nat
  xs128B : Nat
  xs128C : Nat
  /-- XS64S_A, XS64S_B, XS64S_C, XS64S_MULT (R111). -/
  xs64sA : Nat
  xs64sB : Nat
  xs64sC : Nat
  xs64sMult : U64
  /-- XS1024S_A, XS1024S_B, XS1024S_C, XS1024S_MULT (R114), XS1024S_P0 (R115). -/
  xs1024sA : Nat
  xs1024sB : Nat
  xs1024sC : Nat
  xs1024sMult : U64
  xs1024sP0 : BitVec 4
  /-- PCG64_MULT, PCG64_INC (41_pcg.md R150). -/
  pcg64Mult : U64
  pcg64Inc : U64
  /-- PCG128_MULT, PCG128_INC (R151). -/
  pcg128Mult : U128
  pcg128Inc : U128
  /-- XSHRR_XSHIFT, XSHRR_DROP, XSHRR_CNT_SHIFT (R152). -/
  xshrrXshift : Nat
  xshrrDrop : Nat
  xshrrCntShift : Nat
  /-- XSHRS_XSHIFT, XSHRS_BASE, XSHRS_CNT_SHIFT (R153). -/
  xshrsXshift : Nat
  xshrsBase : Nat
  xshrsCntShift : Nat
  /-- XSLRR_CNT_SHIFT (R154). -/
  xslrrCntShift : Nat
  /-- MT_N, MT_M, MT_SENTINEL (42_mt64.md R200, R204, R206). -/
  mtN : Nat
  mtM : Nat
  mtSentinel : Nat
  /-- MT_INIT_MULT, MT_INIT_SHIFT, MT_INIT_MASK, MT_MASK_WORD0 (R201). -/
  mtInitMult : U64
  mtInitShift : Nat
  mtInitMask : U64
  mtMaskWord0 : Bool
  /-- MT_ARRAY_BASE_SEED, MT_ARRAY_SHIFT, MT_ARRAY_MULT1, MT_ARRAY_MULT2, MT_ARRAY_WORD0 (R202). -/
  mtArrayBaseSeed : U64
  mtArrayShift : Nat
  mtArrayMult1 : U64
  mtArrayMult2 : U64
  mtArrayWord0 : U64
  /-- MT_MAX_KEY_LEN (R210). -/
  mtMaxKeyLen : Nat
  /-- MT_UPPER_MASK, MT_LOWER_MASK, MT_MATRIX_A (R204). -/
  mtUpperMask : U64
  mtLowerMask : U64
  mtMatrixA : U64
  /-- MT_T1, MT_T2, MT_T3, MT_TEMPER_FINAL_SHIFT (R205). -/
  mtT1Shift : Nat
  mtT1Mask : U64
  mtT2Shift : Nat
  mtT2Mask : U64
  mtT3Shift : Nat
  mtT3Mask : U64
  mtTemperFinalShift : Option Nat
  /-- R32_K_OPEN (43_real.md R251), R32_K_CLOSED (R252): binary64 encodings. -/
  r32KOpen : U64
  r32KClosed : U64
  /-- R53_HI_DROP, R53_LO_DROP, R53_HI_SCALE (R253). -/
  r53HiDrop : Nat
  r53LoDrop : Nat
  r53HiScale : Nat
  /-- R53_K_OPEN (R254), R53_K_CLOSED (R255): binary64 encodings. -/
  r53KOpen : U64
  r53KClosed : U64
  deriving DecidableEq, Repr

/-- FREE VALUE (notes/assumptions/5.md): the sign (bit 51) and the payload (bits 50 to 0) of the `k`-th NaN a
GENRR command returns. 43_real.md R257: "its bits are any quiet NaN: a model must draw the payload and sign
freely and must not depend on them". It has no body, so no proof can see a value of it. -/
opaque Config.freeNaN : Nat → BitVec 52

/-- HOST_WORD_BYTE_ORDER (00_scope.md R4), left OPEN by 20_memory.md R47. That it is little-endian or big-endian, and no
third order, is the model's narrowing (DESIGN CHOICE, unsafe, notes/assumptions/13.md). No rule of the spec and no
step of the model depends on it; only the platform's own byte link does (`Machine.linkBytes`). -/
opaque Config.hostWordByteOrder : ByteOrder

end Sys2Proof
end

