-- ==== Sys2Proof/Machine/Profiles.lean ====
section
/-! DEFINITION. The two parameter profiles of 00_scope.md R4 and 92_eei_decisions.md D33, and the one this
block is built with (notes/assumptions/6.md). -/

namespace Sys2Proof.Machine

/-- PROFILE_SRC, the defaults of 00_scope.md R4's table. -/
def profileSrc : Params where
  xs32A := 13
  xs32B := 17
  xs32C := 5
  xs64A := 13
  xs64B := 7
  xs64C := 17
  xs128A := 11
  xs128B := 8
  xs128C := 19
  xs64sA := 12
  xs64sB := 25
  xs64sC := 27
  xs64sMult := 0x2545F4914F6CDD1D#64
  xs1024sA := 31
  xs1024sB := 11
  xs1024sC := 30
  xs1024sMult := 0x106689D45497FDB5#64
  xs1024sP0 := 0#4
  pcg64Mult := 6364136223846793005#64
  pcg64Inc := 1442695040888963407#64
  pcg128Mult := 0x2360ED051FC65DA44385DF649FCCF645#128
  pcg128Inc := 0x5851F42D4C957F2D14057B7EF767814F#128
  xshrrXshift := 18
  xshrrDrop := 27
  xshrrCntShift := 59
  xshrsXshift := 22
  xshrsBase := 22
  xshrsCntShift := 61
  xslrrCntShift := 122
  mtN := 312
  mtM := 156
  mtSentinel := 313
  mtInitMult := 6364136223846793005#64
  mtInitShift := 30
  mtInitMask := 0x5555555555555555#64
  mtMaskWord0 := false
  mtArrayBaseSeed := 19650218#64
  mtArrayShift := 62
  mtArrayMult1 := 3935559000370003845#64
  mtArrayMult2 := 2862933555777941757#64
  mtArrayWord0 := 0x8000000000000000#64
  mtMaxKeyLen := 65535
  mtUpperMask := 0x8000000000000000#64
  mtLowerMask := 0x000000007FFFFFFF#64
  mtMatrixA := 0xB5026F5AA96619E9#64
  mtT1Shift := 29
  mtT1Mask := 0x5555555555555555#64
  mtT2Shift := 17
  mtT2Mask := 0x71D67FFFEDA60000#64
  mtT3Shift := 37
  mtT3Mask := 0xFFF7EEE000000000#64
  mtTemperFinalShift := none
  r32KOpen := 0x3DF0000000000000#64
  r32KClosed := 0x3DF0000000100000#64
  r53HiDrop := 5
  r53LoDrop := 6
  r53HiScale := 67108864
  r53KOpen := 0x3CA0000000000000#64
  r53KClosed := 0x3CA0000000000001#64

/-- PROFILE_REF: PROFILE_SRC but for the MT64 parameters marked † (R4, D33). -/
def profileRef : Params :=
  { profileSrc with
    mtInitShift := 62
    mtInitMask := 0xFFFFFFFFFFFFFFFF#64
    mtUpperMask := 0xFFFFFFFF80000000#64
    mtTemperFinalShift := some 43 }

/-- The profile the block is built with; it cannot be changed at run time (44_control.md R331). -/
def params : Params := profileSrc

end Sys2Proof.Machine
end

