-- ==== Sys2Proof/Machine/State.lean ====
section
/-! DEFINITION. The state of the block (10_state.md), the host's side of it, the reasons a step stops, and the
state right after reset. -/

namespace Sys2Proof.Machine

/-! ### Engine registers (10_state.md R21 to R28, R32) -/

/-- An xorshift engine with one register `x` (XS32 R21, XS64 R22, XS64S R24) and its seeded flag (R32). -/
structure XsEngine (w : Nat) where
  x : BitVec w
  seeded : Bool
  deriving DecidableEq, Repr

/-- XS128 (R23): the four words `s[0]` to `s[3]`, `s[0]` the highest-order word of the seed. -/
structure Xs128Engine where
  s0 : U32
  s1 : U32
  s2 : U32
  s3 : U32
  seeded : Bool
  deriving DecidableEq, Repr

/-- XS1024S (R25): the sixteen words `s[0..15]` and the 4-bit ring cursor `p`. -/
structure Xs1024sEngine where
  s : Vector U64 16
  p : BitVec 4
  seeded : Bool
  deriving DecidableEq, Repr

/-- A PCG engine with one register `st` (R26: 64 bits, R27: 128 bits). -/
structure PcgEngine (w : Nat) where
  st : BitVec w
  seeded : Bool
  deriving DecidableEq, Repr

/-- MT64 (R28): the state array `mt` and the 9-bit read cursor `idx`. It has no seeded flag: SEEDED(11) is
`idx ≠ MT_SENTINEL` (R32). The array's length is MT_N in every state a run reaches (`Safety.Inv`). -/
structure Mt64Engine where
  mt : List U64
  idx : BitVec 9
  deriving DecidableEq, Repr

/-- The stored fields of STATUS (R31). STATUS.SEEDED is the seeded flags' own (R32), and the reserved bits hold
nothing; `statusWord` in Sys2Proof/Machine/Flags.lean lays the register out. -/
structure FaultLog where
  faulted : Bool
  firstCause : BitVec 4
  lastCause : BitVec 4
  deriving DecidableEq, Repr

/-- The block's state, all of it: the twelve engines, their seeded flags and STATUS (R20). -/
structure Block where
  /-- E[0] -/
  xs32 : XsEngine 32
  /-- E[1] -/
  xs64 : XsEngine 64
  /-- E[2] -/
  xs128 : Xs128Engine
  /-- E[3] -/
  xs64s : XsEngine 64
  /-- E[4] -/
  xs1024s : Xs1024sEngine
  /-- E[5] -/
  pcg32LcgXshrr : PcgEngine 64
  /-- E[6] -/
  pcg32LcgXshrs : PcgEngine 64
  /-- E[7] -/
  pcg32McgXshrr : PcgEngine 64
  /-- E[8] -/
  pcg32McgXshrs : PcgEngine 64
  /-- E[9] -/
  pcg64LcgXslrr : PcgEngine 128
  /-- E[10] -/
  pcg64McgXslrr : PcgEngine 128
  /-- E[11] -/
  mt64 : Mt64Engine
  /-- FAULTED, FIRST_CAUSE and LAST_CAUSE of STATUS (R31). -/
  faults : FaultLog
  deriving DecidableEq, Repr

/-! ### The host's side (30_encoding.md R65, 70_reset_and_hazards.md R380, R387, R398) -/

/-- One response: the 4-bit status code and the result words (30_encoding.md R74). -/
structure Response where
  status : BitVec 4
  results : List U64
  deriving DecidableEq, Repr

/-- One action of the host: a whole command transaction, the command word with the operand words delivered
with it (R65, R398), or the reset event, which comes between commands (R380). -/
inductive HostAction where
  | command (word : U32) (ops : List U64)
  | reset
  deriving DecidableEq, Repr

/-- The machine's state: the block, and beside it three fields of the model's own. -/
structure State extends Block where
  /-- The host's actions not yet taken, the next one first (R54, R398; notes/assumptions/2.md). -/
  pending : List HostAction
  /-- The responses returned so far, oldest first (R54, R387; notes/assumptions/4.md). -/
  responses : List Response
  /-- How many NaN bit patterns have been drawn (43_real.md R257; notes/assumptions/5.md): the index at which
  the free value `Config.freeNaN` is taken next. No statement rests on a value of it. -/
  draws : Nat
  deriving DecidableEq, Repr

/-! ### How a step stops -/

/-- The reasons the machine stops. A fault of the spec (60_exceptions.md R340) is none of them: a faulting
command answers a next state, with its response and STATUS (`takeFault`). -/
inductive Fault where
  /-- 42_mt64.md R206's `assert idx ≤ 312` fails in a generation on MT64. Raised by GEN.MT64, GENR.MT64,
  GENRC.MT64 and GENRR.MT64 in states no run reaches (00_scope.md R11: a model may check an assertion).
  Safe: the machine stops where the spec gives no behaviour (notes/assumptions/7.md). -/
  | mtCursorAssert
  deriving DecidableEq, Repr

/-- The reasons a transaction or an instruction has no meaning (70_reset_and_hazards.md R399). -/
inductive Refusal where
  /-- An instruction that has no meaning yet; raised by `exec` only. Safe. -/
  | notModelled (mnemonic : String)
  /-- A command that passes checks 1 to 4 came with a number of operand words other than n (60_exceptions.md
  R342 check 5, R399). Raised by `step`. Safe (notes/assumptions/8.md). -/
  | operandCount
  /-- A SEEDA key longer than MT_MAX_KEY_LEN words, which no command word expresses (42_mt64.md R210, R399).
  Raised by SEEDA.MT64 and SEEDA.XS1024S on ill-formed terms and by the assembler. Safe
  (notes/assumptions/9.md). -/
  | keyTooLong
  /-- Assembler text outside the forms of 30_encoding.md R78 (R399). Raised by `assemble` alone. Safe
  (notes/assumptions/12.md). -/
  | assemblerForm
  deriving DecidableEq, Repr

/-! ### Reset (10_state.md R37, 70_reset_and_hazards.md R381) -/

/-- The block after reset. The seeded flags, `idx` and STATUS are as R37 says. The other engine registers hold
"no value" there: here they hold zeros (DESIGN CHOICE, notes/assumptions/1.md), which no rule reads while the
engine is not seeded. -/
def Block.reset : Block where
  xs32 := ⟨0, false⟩
  xs64 := ⟨0, false⟩
  xs128 := ⟨0, 0, 0, 0, false⟩
  xs64s := ⟨0, false⟩
  xs1024s := ⟨Vector.replicate 16 0, 0, false⟩
  pcg32LcgXshrr := ⟨0, false⟩
  pcg32LcgXshrs := ⟨0, false⟩
  pcg32McgXshrr := ⟨0, false⟩
  pcg32McgXshrs := ⟨0, false⟩
  pcg64LcgXslrr := ⟨0, false⟩
  pcg64McgXslrr := ⟨0, false⟩
  mt64 := ⟨List.replicate params.mtN 0, BitVec.ofNat 9 params.mtSentinel⟩
  faults := ⟨false, 0, 0⟩

/-- The machine right after reset, with nothing delivered by the host yet. -/
def State.reset : State where
  toBlock := Block.reset
  pending := []
  responses := []
  draws := 0

end Sys2Proof.Machine
end

