-- ==== Sys2Proof/Machine/Flags.lean ====
section
/-! DEFINITION. The block's flags: the seeded flags (10_state.md R32) and the STATUS register (R31). There are
no condition codes, no arithmetic flags and no IEEE 754 exception flags (R34), so no command computes any. -/

namespace Sys2Proof.Machine

/-- SEEDED(e) (10_state.md R32): the engine's flag, and for MT64 `idx ≠ MT_SENTINEL`. -/
def seeded (b : Block) : Engine → Bool
  | .xs32 => b.xs32.seeded
  | .xs64 => b.xs64.seeded
  | .xs128 => b.xs128.seeded
  | .xs64s => b.xs64s.seeded
  | .xs1024s => b.xs1024s.seeded
  | .pcg32LcgXshrr => b.pcg32LcgXshrr.seeded
  | .pcg32LcgXshrs => b.pcg32LcgXshrs.seeded
  | .pcg32McgXshrr => b.pcg32McgXshrr.seeded
  | .pcg32McgXshrs => b.pcg32McgXshrs.seeded
  | .pcg64LcgXslrr => b.pcg64LcgXslrr.seeded
  | .pcg64McgXslrr => b.pcg64McgXslrr.seeded
  | .mt64 => decide (b.mt64.idx.toNat ≠ params.mtSentinel)

/-- SEEDED(e) as one bit. -/
def seededBit (b : Block) (e : Engine) : BitVec 1 := BitVec.ofBool (seeded b e)

/-- STATUS.SEEDED, 12 bits: bit e is SEEDED(e) (R31). -/
def seededField (b : Block) : BitVec 12 :=
  seededBit b .mt64 ++ seededBit b .pcg64McgXslrr ++ seededBit b .pcg64LcgXslrr ++
    seededBit b .pcg32McgXshrs ++ seededBit b .pcg32McgXshrr ++ seededBit b .pcg32LcgXshrs ++
    seededBit b .pcg32LcgXshrr ++ seededBit b .xs1024s ++ seededBit b .xs64s ++
    seededBit b .xs128 ++ seededBit b .xs64 ++ seededBit b .xs32

/-- The 64-bit STATUS register (R31): [63:32] and [31:28] 0, [27:16] SEEDED, [15:12] 0, [11:8] LAST_CAUSE,
[7:4] FIRST_CAUSE, [3:1] 0, [0] FAULTED. -/
def statusWord (b : Block) : U64 :=
  0#36 ++ seededField b ++ 0#4 ++ b.faults.lastCause ++ b.faults.firstCause ++ 0#3 ++
    BitVec.ofBool b.faults.faulted

/-- What a fault of cause `c` does to FAULTED, FIRST_CAUSE and LAST_CAUSE (60_exceptions.md R344). -/
def recordFault (c : Cause) (f : FaultLog) : FaultLog where
  faulted := true
  firstCause := if f.faulted then f.firstCause else causeCode c
  lastCause := causeCode c

end Sys2Proof.Machine
end

