-- ==== Sys2Proof/Machine/Operands.lean ====
section
/-! DEFINITION. Every operand and result form of the command set: the repeat count (30_encoding.md R69), the
assembly of operand words (R72), the packing of results (R73, 00_scope.md R10), and the byte form of a word on
a byte-serial host link (20_memory.md R47). The decoder has already counted the operand words (R71). -/

namespace Sys2Proof.Machine

/-- The repeat count N (30_encoding.md R69): 1 when BULK = 0, CNT when BULK = 1. -/
def repeatCount : Repeat → Nat
  | .single => 1
  | .bulk n => n.toNat

/-- The seed of XS32: op[0][31:0], the upper bits ignored (R72). -/
def seed32 (op0 : U64) : U32 := op0.extractLsb' 0 32

/-- The seed of a 64-bit-state engine: op[0] (R72). -/
def seed64 (op0 : U64) : U64 := op0

/-- The seed of a 128-bit-state engine: op[0] ‖ op[1], the high word first (R72, 20_memory.md R48). -/
def seed128 (op0 op1 : U64) : U128 := op0 ++ op1

/-- `emit_w(v)` (00_scope.md R10, 30_encoding.md R73): two words, the high one first, for w = 128; else one
word, zero-extended. -/
def emitWords {w : Nat} (v : BitVec w) : List U64 :=
  if w = 128 then [v.extractLsb' 64 64, v.extractLsb' 0 64] else [v.setWidth 64]

/-- The encoding of a NaN result with the sign and payload of the free value `f`: exponent all ones, the quiet
bit set (43_real.md R257; notes/assumptions/5.md). -/
def quietNaN (f : BitVec 52) : U64 :=
  f.extractLsb' 51 1 ++ 0x7FF#11 ++ 1#1 ++ f.extractLsb' 0 51

/-- The result words of a list of reals, `none` standing for a NaN, from draw number `k` on: `bits64` of each
real (R73), a fresh draw for each NaN (R257). Also how many draws have been taken after it. -/
def packReals : List (Option U64) → Nat → List U64 × Nat
  | [], k => ([], k)
  | some u :: rest, k =>
    let r := packReals rest k
    (u :: r.1, r.2)
  | none :: rest, k =>
    let r := packReals rest (k + 1)
    (quietNaN (Config.freeNaN k) :: r.1, r.2)

/-- The eight bytes of a word, least significant first. -/
def wordBytes (u : U64) : List (BitVec 8) :=
  (List.range 8).map fun i => u.extractLsb' (8 * i) 8

/-- The bytes of a word on a byte-serial link of the given order (20_memory.md R47). -/
def orderedBytes (o : ByteOrder) (u : U64) : List (BitVec 8) :=
  match o with
  | .littleEndian => wordBytes u
  | .bigEndian => (wordBytes u).reverse

/-- The bytes of a word on this platform's link, in the open order HOST_WORD_BYTE_ORDER (R47). No step uses it:
commands and responses move whole words. -/
def linkBytes (u : U64) : List (BitVec 8) := orderedBytes Config.hostWordByteOrder u

end Sys2Proof.Machine
end

