-- ==== Sys2Proof/Machine/Ops.lean ====
section
/-! DEFINITION. The named operations every command is built from: register writes, responses, taking a fault
(60_exceptions.md R340, R344), reset (70_reset_and_hazards.md R381), taking the host's next action
(20_memory.md R54), rotation (00_scope.md R7), and the repetition of an engine's step procedure for a
generation command (30_encoding.md R69, 20_memory.md R55). The block has no memory (20_memory.md R45), no
handler to enter (R347) and no return from one (R348). -/

namespace Sys2Proof.Machine

/-! ### Register writes: one home for each register -/

/-- E[0] <- e. -/
def State.setXs32 (e : XsEngine 32) (s : State) : State := { s with xs32 := e }

/-- E[1] <- e. -/
def State.setXs64 (e : XsEngine 64) (s : State) : State := { s with xs64 := e }

/-- E[2] <- e. -/
def State.setXs128 (e : Xs128Engine) (s : State) : State := { s with xs128 := e }

/-- E[3] <- e. -/
def State.setXs64s (e : XsEngine 64) (s : State) : State := { s with xs64s := e }

/-- E[4] <- e. -/
def State.setXs1024s (e : Xs1024sEngine) (s : State) : State := { s with xs1024s := e }

/-- E[5] <- e. -/
def State.setPcg32LcgXshrr (e : PcgEngine 64) (s : State) : State := { s with pcg32LcgXshrr := e }

/-- E[6] <- e. -/
def State.setPcg32LcgXshrs (e : PcgEngine 64) (s : State) : State := { s with pcg32LcgXshrs := e }

/-- E[7] <- e. -/
def State.setPcg32McgXshrr (e : PcgEngine 64) (s : State) : State := { s with pcg32McgXshrr := e }

/-- E[8] <- e. -/
def State.setPcg32McgXshrs (e : PcgEngine 64) (s : State) : State := { s with pcg32McgXshrs := e }

/-- E[9] <- e. -/
def State.setPcg64LcgXslrr (e : PcgEngine 128) (s : State) : State := { s with pcg64LcgXslrr := e }

/-- E[10] <- e. -/
def State.setPcg64McgXslrr (e : PcgEngine 128) (s : State) : State := { s with pcg64McgXslrr := e }

/-- E[11] <- e. -/
def State.setMt64 (e : Mt64Engine) (s : State) : State := { s with mt64 := e }

/-- FAULTED, FIRST_CAUSE and LAST_CAUSE of STATUS <- f. -/
def State.setFaults (f : FaultLog) (s : State) : State := { s with faults := f }

/-- The host's actions still to come. -/
def State.setPending (l : List HostAction) (s : State) : State := { s with pending := l }

/-- The counter of NaN draws (43_real.md R257). -/
def State.setDraws (k : Nat) (s : State) : State := { s with draws := k }

/-- Return one response to the host (30_encoding.md R74): responses are in command order (20_memory.md R54). -/
def State.respond (status : BitVec 4) (results : List U64) (s : State) : State :=
  { s with responses := s.responses ++ [⟨status, results⟩] }

/-! ### Outcomes of a command -/

/-- The command reaches its end: status OK with these result words (00_scope.md R10). -/
def complete (results : List U64) (s : State) : Host.Outcome State Fault Refusal :=
  .next (s.respond 0#4 results)

/-- TAKING A FAULT, the one operation (60_exceptions.md R340, R344): STATUS records the cause, the response is
`(c, [])`, nothing else changes. No handler is entered and no program counter is saved (R347). -/
def takeFault (c : Cause) (s : State) : State :=
  (s.setFaults (recordFault c s.faults)).respond (causeCode c) []

/-- `raise c` (00_scope.md R10): the command ends with the fault. -/
def raise (c : Cause) (s : State) : Host.Outcome State Fault Refusal :=
  .next (takeFault c s)

/-! ### The host's actions -/

/-- The reset event (70_reset_and_hazards.md R380, R381): every piece of the block's state goes to its reset
value, whatever it was, and no response is returned. -/
def resetBlock (s : State) : State := { s with toBlock := Block.reset }

/-- Take the host's next action, if there is one (20_memory.md R54). -/
def takeAction (s : State) : Option HostAction × State :=
  match s.pending with
  | [] => (none, s)
  | a :: rest => (some a, s.setPending rest)

/-- The host delivers a transaction ahead of everything still pending. -/
def deliverFirst (w : U32) (ops : List U64) (s : State) : State :=
  s.setPending (.command w ops :: s.pending)

/-! ### Rotation -/

/-- `rotr_w(v, r)` (00_scope.md R7). -/
def rotr {w : Nat} (v : BitVec w) (r : Nat) : BitVec w :=
  if r = 0 then v else (v >>> r) ||| (v <<< (w - r))

/-! ### Generation -/

/-- `repeat n times` of a step procedure that returns a value (00_scope.md R11): the values in call order and
the state after the last call. -/
def drawN {α : Type} (next : State → α × State) : Nat → State → List α × State
  | 0, s => ([], s)
  | n + 1, s =>
    let r := next s
    let t := drawN next n r.2
    (r.1 :: t.1, t.2)

/-- A generation command up to its results: check 7 (60_exceptions.md R342, made for N = 0 too), then N calls of
the engine's step procedure, then the results (30_encoding.md R69). -/
def generate {α : Type} (e : Engine) (next : State → α × State) (rep : Repeat)
    (finish : List α → State → Host.Outcome State Fault Refusal) (s : State) :
    Host.Outcome State Fault Refusal :=
  if seeded s.toBlock e then
    let r := drawN next (repeatCount rep) s
    finish r.1 r.2
  else raise .unseeded s

/-- GEN: the raw values, each by `emit_w` (30_encoding.md R73). -/
def finishRaw {w : Nat} (vs : List (BitVec w)) (s : State) : Host.Outcome State Fault Refusal :=
  complete (vs.flatMap emitWords) s

/-- GENR, GENRC, GENRR: one word for each raw value, `bits64` of the real `conv` makes of it (R73); `none` is a
NaN, whose bits are drawn (43_real.md R257). -/
def finishReal {w : Nat} (conv : BitVec w → Option U64) (vs : List (BitVec w)) (s : State) :
    Host.Outcome State Fault Refusal :=
  let r := packReals (vs.map conv) s.draws
  complete r.1 (s.setDraws r.2)

end Sys2Proof.Machine
end

