-- ==== Sys2Proof/Machine/Control.lean ====
section
/-! DEFINITION. The one control-and-status command (44_control.md). No command writes STATUS or any other
control state (R331). -/

namespace Sys2Proof.Machine

/-- STATUS (R330): the register as it stands before the command; nothing changes. -/
def execStatus (s : State) : Host.Outcome State Fault Refusal :=
  complete [statusWord s.toBlock] s

end Sys2Proof.Machine
end

