-- ==== Sys2Proof/Machine/Mt64.lean ====
section
/-! DEFINITION. The MT64 engine (42_mt64.md): scalar and array seeding R201 and R202, the twist R204, tempering
R205, the cursor R206, and the SEED, SEEDA and GEN commands. Every array index is in bounds where the array has
MT_N words (20_memory.md R46), so the default of `List.getD` is never read there (notes/assumptions/20.md). -/

namespace Sys2Proof.Machine

/-- Word i of the array. -/
def mtGet (mt : List U64) (i : Nat) : U64 := mt.getD i 0#64

/-! ### Scalar seeding (R201) -/

/-- Word i from the stored word before it (R201). -/
def mtInitWord (c : Params) (i : Nat) (prev : U64) : U64 :=
  (c.mtInitMult * (prev ^^^ (prev >>> c.mtInitShift)) + BitVec.ofNat 64 i) &&& c.mtInitMask

/-- `n` words from word i on, `prev` being word i − 1 (the loop of R201). -/
def mtInitFrom (c : Params) : Nat → Nat → U64 → List U64
  | 0, _, _ => []
  | n + 1, i, prev =>
    let v := mtInitWord c i prev
    v :: mtInitFrom c n (i + 1) v

/-- The array `MT_InitGenrand(seed)` leaves (R201): word 0 is the seed, masked only if MT_MASK_WORD0. -/
def mtInitGenrand (c : Params) (seed : U64) : List U64 :=
  let w0 := if c.mtMaskWord0 then seed &&& c.mtInitMask else seed
  w0 :: mtInitFrom c (c.mtN - 1) 1 w0

/-! ### Array seeding (R202) -/

/-- The array with the two loop indices of R202. -/
structure MtFill where
  mt : List U64
  i : Nat
  j : Nat
  deriving DecidableEq, Repr

/-- `if i ≥ 312 then mt[0] <- mt[311]; i <- 1` (R202). -/
def mtFillWrap (c : Params) (f : MtFill) : MtFill :=
  if c.mtN ≤ f.i then { f with mt := f.mt.set 0 (mtGet f.mt (c.mtN - 1)), i := 1 } else f

/-- One step of pass 1 (R202): combine with key[j] and the offset j, then wrap i and j. -/
def mtPass1 (c : Params) (key : List U64) (f : MtFill) : MtFill :=
  let prev := mtGet f.mt (f.i - 1)
  let v := (mtGet f.mt f.i ^^^ ((prev ^^^ (prev >>> c.mtArrayShift)) * c.mtArrayMult1)) +
    mtGet key f.j + BitVec.ofNat 64 f.j
  let j := f.j + 1
  mtFillWrap c ⟨f.mt.set f.i v, f.i + 1, if key.length ≤ j then 0 else j⟩

/-- One step of pass 2 (R202): subtract the offset i, then wrap i. -/
def mtPass2 (c : Params) (f : MtFill) : MtFill :=
  let prev := mtGet f.mt (f.i - 1)
  let v := (mtGet f.mt f.i ^^^ ((prev ^^^ (prev >>> c.mtArrayShift)) * c.mtArrayMult2)) -
    BitVec.ofNat 64 f.i
  mtFillWrap c { f with mt := f.mt.set f.i v, i := f.i + 1 }

/-- `repeat n times` (00_scope.md R11). -/
def times {α : Type} (step : α → α) : Nat → α → α
  | 0, a => a
  | n + 1, a => times step n (step a)

/-- The array `MT_InitByArray(key, L)` leaves (R202). -/
def mtInitByArray (c : Params) (key : List U64) : List U64 :=
  let f0 : MtFill := ⟨mtInitGenrand c c.mtArrayBaseSeed, 1, 0⟩
  let f1 := times (mtPass1 c key) (max c.mtN key.length) f0
  let f2 := times (mtPass2 c) (c.mtN - 1) f1
  f2.mt.set 0 c.mtArrayWord0

/-! ### Regeneration, tempering, cursor -/

/-- The word the twist writes at position i of the array as it stands (R204). -/
def mtTwistWord (c : Params) (mt : List U64) (i : Nat) : U64 :=
  let y := (mtGet mt i &&& c.mtUpperMask) ||| (mtGet mt ((i + 1) % c.mtN) &&& c.mtLowerMask)
  let mag := if y.getLsbD 0 then c.mtMatrixA else 0#64
  mtGet mt ((i + c.mtM) % c.mtN) ^^^ (y >>> 1) ^^^ mag

/-- `MT_Twist()` (R204): positions 0 to MT_N − 1, ascending, in place. -/
def mtTwist (c : Params) (mt : List U64) : List U64 :=
  (List.range c.mtN).foldl (fun m i => m.set i (mtTwistWord c m i)) mt

/-- `MT_Temper(y)` (R205); it reads and writes no state. -/
def mtTemper (c : Params) (y0 : U64) : U64 :=
  let y1 := y0 ^^^ ((y0 >>> c.mtT1Shift) &&& c.mtT1Mask)
  let y2 := y1 ^^^ ((y1 <<< c.mtT2Shift) &&& c.mtT2Mask)
  let y3 := y2 ^^^ ((y2 <<< c.mtT3Shift) &&& c.mtT3Mask)
  match c.mtTemperFinalShift with
  | none => y3
  | some k => y3 ^^^ (y3 >>> k)

/-- The engine as the next word is read from it: regenerated, with the cursor at 0, where the cursor is at
MT_N (R206). -/
def mtReady (c : Params) (e : Mt64Engine) : Mt64Engine :=
  if e.idx.toNat = c.mtN then ⟨mtTwist c e.mt, 0#9⟩ else e

/-- `MT_Next()` (R206): the tempered copy of the word at the cursor; the cursor advances by one. Its
`assert idx ≤ 312` is `mtAsserted`'s. -/
def mt64Next (s : State) : U64 × State :=
  let e := mtReady params s.mt64
  (mtTemper params (mtGet e.mt e.idx.toNat), s.setMt64 { e with idx := e.idx + 1#9 })

/-- `assert idx ≤ 312` of MT_Next (R206, 00_scope.md R11) around a generation command. The cursor never leaves
[0, 312] inside the command, so one check before it is enough; at MT_SENTINEL the command faults UNSEEDED
instead (R208). -/
def mtAsserted (s : State) (k : Host.Outcome State Fault Refusal) : Host.Outcome State Fault Refusal :=
  if s.mt64.idx.toNat ≤ params.mtN ∨ s.mt64.idx.toNat = params.mtSentinel then k
  else .fault .mtCursorAssert

/-! ### Commands -/

/-- SEED.MT64 (R203): the seeded array, the cursor at MT_N; nothing is twisted (R200). -/
def execSeedMt64 (op0 : U64) (s : State) : Host.Outcome State Fault Refusal :=
  complete [] (s.setMt64 ⟨mtInitGenrand params (seed64 op0), BitVec.ofNat 9 params.mtN⟩)

/-- SEEDA.MT64 (R207): EMPTY_KEY for L = 0; a key no command word expresses is refused (R210). -/
def execSeedaMt64 (key : List U64) (s : State) : Host.Outcome State Fault Refusal :=
  if params.mtMaxKeyLen < key.length then .refused .keyTooLong
  else if key.length = 0 then raise .emptyKey s
  else complete [] (s.setMt64 ⟨mtInitByArray params key, BitVec.ofNat 9 params.mtN⟩)

/-- GEN.MT64 (R208). -/
def execGenMt64 (rep : Repeat) (s : State) : Host.Outcome State Fault Refusal :=
  mtAsserted s (generate .mt64 mt64Next rep finishRaw s)

end Sys2Proof.Machine
end

