-- ==== Sys2Proof/Machine/Pcg.lean ====
section
/-! DEFINITION. The PCG engines (41_pcg.md): the advance rules R150 and R151, the output permutations R152 to
R154, the generation order R155, and the SEED and GEN commands. -/

namespace Sys2Proof.Machine

/-! ### Advance rules -/

/-- `Advance64(st, lcg)` (R150). -/
def advance64 (c : Params) (lcg : Bool) (st : U64) : U64 :=
  if lcg then st * c.pcg64Mult + c.pcg64Inc else st * c.pcg64Mult

/-- `Advance128(st, lcg)` (R151). -/
def advance128 (c : Params) (lcg : Bool) (st : U128) : U128 :=
  if lcg then st * c.pcg128Mult + c.pcg128Inc else st * c.pcg128Mult

/-! ### Output permutations -/

/-- `XSH_RR(st)` (R152). -/
def xshRr (c : Params) (st : U64) : U32 :=
  let cnt := (st >>> c.xshrrCntShift).toNat
  let x := st ^^^ (st >>> c.xshrrXshift)
  rotr ((x >>> c.xshrrDrop).setWidth 32) cnt

/-- `XSH_RS(st)` (R153). -/
def xshRs (c : Params) (st : U64) : U32 :=
  let cnt := (st >>> c.xshrsCntShift).toNat
  (((st >>> c.xshrsXshift) ^^^ st) >>> (c.xshrsBase + cnt)).setWidth 32

/-- `XSL_RR(st)` (R154). -/
def xslRr (c : Params) (st : U128) : U64 :=
  let cnt := (st >>> c.xslrrCntShift).toNat
  rotr (st.extractLsb' 64 64 ^^^ st.extractLsb' 0 64) cnt

/-! ### `PCG_Next(e)` (R155): the output is the permutation of the state before the advance -/

/-- `PCG_Next(5)`. -/
def pcg32LcgXshrrNext (s : State) : U32 × State :=
  let old := s.pcg32LcgXshrr.st
  (xshRr params old, s.setPcg32LcgXshrr { s.pcg32LcgXshrr with st := advance64 params true old })

/-- `PCG_Next(6)`. -/
def pcg32LcgXshrsNext (s : State) : U32 × State :=
  let old := s.pcg32LcgXshrs.st
  (xshRs params old, s.setPcg32LcgXshrs { s.pcg32LcgXshrs with st := advance64 params true old })

/-- `PCG_Next(7)`. -/
def pcg32McgXshrrNext (s : State) : U32 × State :=
  let old := s.pcg32McgXshrr.st
  (xshRr params old, s.setPcg32McgXshrr { s.pcg32McgXshrr with st := advance64 params false old })

/-- `PCG_Next(8)`. -/
def pcg32McgXshrsNext (s : State) : U32 × State :=
  let old := s.pcg32McgXshrs.st
  (xshRs params old, s.setPcg32McgXshrs { s.pcg32McgXshrs with st := advance64 params false old })

/-- `PCG_Next(9)`. -/
def pcg64LcgXslrrNext (s : State) : U64 × State :=
  let old := s.pcg64LcgXslrr.st
  (xslRr params old, s.setPcg64LcgXslrr { s.pcg64LcgXslrr with st := advance128 params true old })

/-- `PCG_Next(10)`. -/
def pcg64McgXslrrNext (s : State) : U64 × State :=
  let old := s.pcg64McgXslrr.st
  (xslRr params old, s.setPcg64McgXslrr { s.pcg64McgXslrr with st := advance128 params false old })

/-! ### Seeding: the state is the seed verbatim (R156); nothing forces an MCG state odd (R168) -/

/-- SEED.PCG32_LCG_XSHRR (R156). -/
def execSeedPcg32LcgXshrr (op0 : U64) (s : State) : Host.Outcome State Fault Refusal :=
  complete [] (s.setPcg32LcgXshrr ⟨seed64 op0, true⟩)

/-- SEED.PCG32_LCG_XSHRS (R158). -/
def execSeedPcg32LcgXshrs (op0 : U64) (s : State) : Host.Outcome State Fault Refusal :=
  complete [] (s.setPcg32LcgXshrs ⟨seed64 op0, true⟩)

/-- SEED.PCG32_MCG_XSHRR (R160). -/
def execSeedPcg32McgXshrr (op0 : U64) (s : State) : Host.Outcome State Fault Refusal :=
  complete [] (s.setPcg32McgXshrr ⟨seed64 op0, true⟩)

/-- SEED.PCG32_MCG_XSHRS (R162). -/
def execSeedPcg32McgXshrs (op0 : U64) (s : State) : Host.Outcome State Fault Refusal :=
  complete [] (s.setPcg32McgXshrs ⟨seed64 op0, true⟩)

/-- SEED.PCG64_LCG_XSLRR (R164). -/
def execSeedPcg64LcgXslrr (op0 op1 : U64) (s : State) : Host.Outcome State Fault Refusal :=
  complete [] (s.setPcg64LcgXslrr ⟨seed128 op0 op1, true⟩)

/-- SEED.PCG64_MCG_XSLRR (R166). -/
def execSeedPcg64McgXslrr (op0 op1 : U64) (s : State) : Host.Outcome State Fault Refusal :=
  complete [] (s.setPcg64McgXslrr ⟨seed128 op0 op1, true⟩)

/-! ### GEN -/

/-- GEN.PCG32_LCG_XSHRR (R157). -/
def execGenPcg32LcgXshrr (rep : Repeat) (s : State) : Host.Outcome State Fault Refusal :=
  generate .pcg32LcgXshrr pcg32LcgXshrrNext rep finishRaw s

/-- GEN.PCG32_LCG_XSHRS (R159). -/
def execGenPcg32LcgXshrs (rep : Repeat) (s : State) : Host.Outcome State Fault Refusal :=
  generate .pcg32LcgXshrs pcg32LcgXshrsNext rep finishRaw s

/-- GEN.PCG32_MCG_XSHRR (R161). -/
def execGenPcg32McgXshrr (rep : Repeat) (s : State) : Host.Outcome State Fault Refusal :=
  generate .pcg32McgXshrr pcg32McgXshrrNext rep finishRaw s

/-- GEN.PCG32_MCG_XSHRS (R163). -/
def execGenPcg32McgXshrs (rep : Repeat) (s : State) : Host.Outcome State Fault Refusal :=
  generate .pcg32McgXshrs pcg32McgXshrsNext rep finishRaw s

/-- GEN.PCG64_LCG_XSLRR (R165). -/
def execGenPcg64LcgXslrr (rep : Repeat) (s : State) : Host.Outcome State Fault Refusal :=
  generate .pcg64LcgXslrr pcg64LcgXslrrNext rep finishRaw s

/-- GEN.PCG64_MCG_XSLRR (R167). -/
def execGenPcg64McgXslrr (rep : Repeat) (s : State) : Host.Outcome State Fault Refusal :=
  generate .pcg64McgXslrr pcg64McgXslrrNext rep finishRaw s

end Sys2Proof.Machine
end

