-- ==== Sys2Proof/Machine/Binary64.lean ====
section
/-! DEFINITION. The binary64 arithmetic of 00_scope.md R8: `fl`, round to nearest with ties to even, and the
operations +, − and × under IEEE 754, with infinities, signed zeros, NaNs and gradual underflow.

A finite binary64 is a whole multiple of 2^-1074, so its magnitude is a natural number of such units and every
operation is exact before its one rounding. An operation that returns a NaN answers `none`: the NaN's bits are
drawn where a result is returned (43_real.md R257). No exception flag is kept (10_state.md R34). The encodings,
the sign of an exact zero sum and the overflow to infinity are IEEE 754's own (PRESUMED, notes/assumptions/11.md). -/

namespace Sys2Proof.Machine

/-- The sign bit. -/
def f64Sign (u : U64) : Bool := u.getLsbD 63

/-- The biased exponent, bits [62:52]. -/
def f64Exp (u : U64) : Nat := (u.extractLsb' 52 11).toNat

/-- The fraction, bits [51:0]. -/
def f64Frac (u : U64) : Nat := (u.extractLsb' 0 52).toNat

/-- A NaN: exponent all ones, fraction not 0. -/
def f64IsNaN (u : U64) : Bool := decide (f64Exp u = 2047) && decide (f64Frac u ≠ 0)

/-- An infinity: exponent all ones, fraction 0. -/
def f64IsInf (u : U64) : Bool := decide (f64Exp u = 2047) && decide (f64Frac u = 0)

/-- The magnitude of a finite binary64 in units of 2^-1074: a subnormal's is its fraction, a normal one's is
its significand 2^52 + fraction shifted by its exponent. -/
def f64Mag (u : U64) : Nat :=
  if f64Exp u = 0 then f64Frac u else (2 ^ 52 + f64Frac u) * 2 ^ (f64Exp u - 1)

/-- The encoding of +∞ as a number; the magnitude bits of every finite binary64 are below it. -/
def f64InfBits : Nat := 0x7FF * 2 ^ 52

/-- `m / 2^sh` rounded to the nearest whole number, ties to the even one. -/
def roundShift (m sh : Nat) : Nat :=
  let q := m / 2 ^ sh
  let r := m % 2 ^ sh
  if 2 ^ sh < 2 * r ∨ (2 * r = 2 ^ sh ∧ q % 2 = 1) then q + 1 else q

/-- How many low bits of `m` lie below the last place of the binary64 nearest to `m / 2^k`: all but 53
significant ones, and no fewer than reach 2^-1074 (gradual underflow). -/
def roundPlace (m k : Nat) : Nat := max (Nat.log2 m + 1 - 53) (k - 1074)

/-- The magnitude bits of `fl(m / 2^k)`, for k ≥ 1074 (R8). The rounded significand, added at its place in the
exponent scale, carries into the exponent by itself where it reaches the next power of two. -/
def roundMag (m k : Nat) : Nat :=
  let sh := roundPlace m k
  min ((sh - (k - 1074)) * 2 ^ 52 + roundShift m sh) f64InfBits

/-- The binary64 with the given sign and magnitude bits. -/
def f64Pack (neg : Bool) (bits : Nat) : U64 := BitVec.ofBool neg ++ BitVec.ofNat 63 bits

/-- `fl(± m / 2^k)` (R8). -/
def f64Round (neg : Bool) (m k : Nat) : U64 := f64Pack neg (roundMag m k)

/-- `f64(n)` (R8): exact for n < 2^53. -/
def f64OfNat (n : Nat) : U64 := f64Round false (n * 2 ^ 1074) 1074

/-- The infinity of the given sign. -/
def f64Inf (neg : Bool) : U64 := f64Pack neg f64InfBits

/-- The signed magnitude of a finite binary64 in units of 2^-1074. -/
def f64Int (u : U64) : Int := if f64Sign u then -(f64Mag u : Int) else (f64Mag u : Int)

/-- `fl` of the exact sum `n` units of two finite values (R8). An exact zero is negative only where both
addends are (round to nearest). -/
def f64RoundSum (bothNeg : Bool) (n : Int) : U64 :=
  if n = 0 then f64Pack bothNeg 0 else f64Round (decide (n < 0)) n.natAbs 1074

/-- `a + b` (R8); `none` is a NaN: a NaN operand, or infinities of opposite signs. -/
def f64Add (a b : U64) : Option U64 :=
  if f64IsNaN a || f64IsNaN b then none
  else if f64IsInf a then
    if f64IsInf b && (f64Sign a != f64Sign b) then none else some a
  else if f64IsInf b then some b
  else some (f64RoundSum (f64Sign a && f64Sign b) (f64Int a + f64Int b))

/-- The value with its sign bit inverted. -/
def f64Neg (a : U64) : U64 := a ^^^ (1#1 ++ 0#63)

/-- `a − b` (R8): IEEE 754 subtraction is the addition of the operand with its sign inverted. -/
def f64Sub (a b : U64) : Option U64 := f64Add a (f64Neg b)

/-- `a × b` (R8); `none` is a NaN: a NaN operand, or an infinity times a zero. -/
def f64Mul (a b : U64) : Option U64 :=
  let neg := f64Sign a != f64Sign b
  if f64IsNaN a || f64IsNaN b then none
  else if f64IsInf a || f64IsInf b then
    if (!f64IsInf a && decide (f64Mag a = 0)) || (!f64IsInf b && decide (f64Mag b = 0)) then none
    else some (f64Inf neg)
  else some (f64Round neg (f64Mag a * f64Mag b) 2148)

end Sys2Proof.Machine
end

