-- ==== Sys2Proof/Machine/Xorshift.lean ====
section
/-! DEFINITION. The xorshift engines (40_xorshift.md): the step procedures R101, R104, R108, R111 and R114, the
seeding commands and the GEN commands. -/

namespace Sys2Proof.Machine

/-! ### Step procedures -/

/-- The three shift-xor lines of XS32 (R101). -/
def xs32Step (c : Params) (x0 : U32) : U32 :=
  let x1 := x0 ^^^ (x0 <<< c.xs32A)
  let x2 := x1 ^^^ (x1 >>> c.xs32B)
  x2 ^^^ (x2 <<< c.xs32C)

/-- `XS32_Next()` (R101): the output is the new state. -/
def xs32Next (s : State) : U32 × State :=
  let x := xs32Step params s.xs32.x
  (x, s.setXs32 { s.xs32 with x := x })

/-- The three shift-xor lines of XS64 (R104). -/
def xs64Step (c : Params) (x0 : U64) : U64 :=
  let x1 := x0 ^^^ (x0 <<< c.xs64A)
  let x2 := x1 ^^^ (x1 >>> c.xs64B)
  x2 ^^^ (x2 <<< c.xs64C)

/-- `XS64_Next()` (R104): the output is the new state. -/
def xs64Next (s : State) : U64 × State :=
  let x := xs64Step params s.xs64.x
  (x, s.setXs64 { s.xs64 with x := x })

/-- The ring rotation of XS128 and its new last word (R108). -/
def xs128Step (c : Params) (e : Xs128Engine) : Xs128Engine :=
  let t := e.s0 ^^^ (e.s0 <<< c.xs128A)
  let w := e.s3
  { e with
    s0 := e.s1
    s1 := e.s2
    s2 := w
    s3 := (w ^^^ (w >>> c.xs128C)) ^^^ (t ^^^ (t >>> c.xs128B)) }

/-- The whole state of XS128 as one value, s[0] highest (R107). -/
def xs128Word (e : Xs128Engine) : U128 := e.s0 ++ e.s1 ++ e.s2 ++ e.s3

/-- `XS128_Next()` (R108): the output is the whole new state (R107). -/
def xs128Next (s : State) : U128 × State :=
  let e := xs128Step params s.xs128
  (xs128Word e, s.setXs128 e)

/-- The three shift-xor lines of XS64S (R111). -/
def xs64sStep (c : Params) (x0 : U64) : U64 :=
  let x1 := x0 ^^^ (x0 >>> c.xs64sA)
  let x2 := x1 ^^^ (x1 <<< c.xs64sB)
  x2 ^^^ (x2 >>> c.xs64sC)

/-- `XS64S_Next()` (R111): the stored state is unscrambled, the output is multiplied. -/
def xs64sNext (s : State) : U64 × State :=
  let x := xs64sStep params s.xs64s.x
  (x * params.xs64sMult, s.setXs64s { s.xs64s with x := x })

/-- Word p of the ring (R25); a 4-bit cursor is always inside (20_memory.md R46). -/
def ringGet (s : Vector U64 16) (p : BitVec 4) : U64 := s.get p.toFin

/-- The ring with word p replaced. -/
def ringSet (s : Vector U64 16) (p : BitVec 4) (v : U64) : Vector U64 16 :=
  s.set p.toNat v p.isLt

/-- The cursor advance and the mix of XS1024S (R114): one word and the cursor are written. -/
def xs1024sStep (c : Params) (e : Xs1024sEngine) : Xs1024sEngine :=
  let s0 := ringGet e.s e.p
  let p := (e.p + 1#4) &&& 15#4
  let old := ringGet e.s p
  let s1 := old ^^^ (old <<< c.xs1024sA)
  { e with
    s := ringSet e.s p (s1 ^^^ s0 ^^^ (s1 >>> c.xs1024sB) ^^^ (s0 >>> c.xs1024sC))
    p := p }

/-- `XS1024S_Next()` (R114): the output is the new slot multiplied. -/
def xs1024sNext (s : State) : U64 × State :=
  let e := xs1024sStep params s.xs1024s
  (ringGet e.s e.p * params.xs1024sMult, s.setXs1024s e)

/-! ### Seeding (R100: the seed is stored verbatim, no value is rejected) -/

/-- SEED.XS32 (R102). -/
def execSeedXs32 (op0 : U64) (s : State) : Host.Outcome State Fault Refusal :=
  complete [] (s.setXs32 ⟨seed32 op0, true⟩)

/-- SEED.XS64 (R105). -/
def execSeedXs64 (op0 : U64) (s : State) : Host.Outcome State Fault Refusal :=
  complete [] (s.setXs64 ⟨seed64 op0, true⟩)

/-- The seed sliced high to low (R107, R109). -/
def xs128OfSeed (seed : U128) : Xs128Engine where
  s0 := seed.extractLsb' 96 32
  s1 := seed.extractLsb' 64 32
  s2 := seed.extractLsb' 32 32
  s3 := seed.extractLsb' 0 32
  seeded := true

/-- SEED.XS128 (R109). -/
def execSeedXs128 (op0 op1 : U64) (s : State) : Host.Outcome State Fault Refusal :=
  complete [] (s.setXs128 (xs128OfSeed (seed128 op0 op1)))

/-- SEED.XS64S (R112). -/
def execSeedXs64s (op0 : U64) (s : State) : Host.Outcome State Fault Refusal :=
  complete [] (s.setXs64s ⟨seed64 op0, true⟩)

/-- SEEDA.XS1024S (R115): sixteen words verbatim and the cursor at XS1024S_P0; any other length faults
BAD_KEY_LENGTH. A key no command word expresses is refused (42_mt64.md R210). -/
def execSeedaXs1024s (key : List U64) (s : State) : Host.Outcome State Fault Refusal :=
  if params.mtMaxKeyLen < key.length then .refused .keyTooLong
  else if h : key.length = 16 then
    complete [] (s.setXs1024s ⟨⟨key.toArray, h⟩, params.xs1024sP0, true⟩)
  else raise .badKeyLength s

/-! ### GEN -/

/-- GEN.XS32 (R103). -/
def execGenXs32 (rep : Repeat) (s : State) : Host.Outcome State Fault Refusal :=
  generate .xs32 xs32Next rep finishRaw s

/-- GEN.XS64 (R106). -/
def execGenXs64 (rep : Repeat) (s : State) : Host.Outcome State Fault Refusal :=
  generate .xs64 xs64Next rep finishRaw s

/-- GEN.XS128 (R110). -/
def execGenXs128 (rep : Repeat) (s : State) : Host.Outcome State Fault Refusal :=
  generate .xs128 xs128Next rep finishRaw s

/-- GEN.XS64S (R113). -/
def execGenXs64s (rep : Repeat) (s : State) : Host.Outcome State Fault Refusal :=
  generate .xs64s xs64sNext rep finishRaw s

/-- GEN.XS1024S (R116). -/
def execGenXs1024s (rep : Repeat) (s : State) : Host.Outcome State Fault Refusal :=
  generate .xs1024s xs1024sNext rep finishRaw s

end Sys2Proof.Machine
end

