-- ==== Sys2Proof/Machine/Real.lean ====
section
/-! DEFINITION. The real mapper (43_real.md R250 to R257) and the 36 real-valued commands GENR, GENRC and GENRR,
one for each engine. Each real consumes one raw output (R250). A map answers `none` where it returns a NaN. -/

namespace Sys2Proof.Machine

/-! ### The mapper -/

/-- `Real32Open(x)` (R251). -/
def real32Open (c : Params) (x : U32) : Option U64 := f64Mul (f64OfNat x.toNat) c.r32KOpen

/-- `Real32Closed(x)` (R252). -/
def real32Closed (c : Params) (x : U32) : Option U64 := f64Mul (f64OfNat x.toNat) c.r32KClosed

/-- The top 64 bits of a raw value (R253): all of it for w = 64, v[127:64] for w = 128. -/
def topWord {w : Nat} (v : BitVec w) : U64 := v.extractLsb' (w - 64) 64

/-- The 53-bit split of the top word (R253). -/
def chunksOfTop (c : Params) (top : U64) : Nat :=
  let a := (top.extractLsb' 32 32 >>> c.r53HiDrop).toNat
  let b := (top.extractLsb' 0 32 >>> c.r53LoDrop).toNat
  a * c.r53HiScale + b

/-- `Chunks_w(v)` (R253). -/
def chunks {w : Nat} (c : Params) (v : BitVec w) : Nat := chunksOfTop c (topWord v)

/-- `Real53Open(n)` (R254). -/
def real53Open (c : Params) (n : Nat) : Option U64 := f64Mul (f64OfNat n) c.r53KOpen

/-- `Real53Closed(n)` (R255). -/
def real53Closed (c : Params) (n : Nat) : Option U64 := f64Mul (f64OfNat n) c.r53KClosed

/-- `RealOpen_w(v)` (R256): one function for every width. -/
def realOpen {w : Nat} (c : Params) (v : BitVec w) : Option U64 :=
  if w = 32 then real32Open c (v.setWidth 32) else real53Open c (chunks c v)

/-- `RealClosed_w(v)` (R256). -/
def realClosed {w : Nat} (c : Params) (v : BitVec w) : Option U64 :=
  if w = 32 then real32Closed c (v.setWidth 32) else real53Closed c (chunks c v)

/-- `RangeMap(lo, hi, r)` (R257): d = fl(hi − lo), p = fl(d × r), fl(lo + p), no fused operation; a NaN operand
makes each later operation a NaN. -/
def rangeMap (lo hi : U64) (r : Option U64) : Option U64 :=
  (f64Sub hi lo).bind fun d => r.bind fun r => (f64Mul d r).bind fun p => f64Add lo p

/-- The map of GENRR (R257): r = RealOpen_w(v). -/
def realRange {w : Nat} (c : Params) (lo hi : U64) (v : BitVec w) : Option U64 :=
  rangeMap lo hi (realOpen c v)

/-! ### GENR (section 4.1) -/

/-- GENR.XS32 (R260). -/
def execGenrXs32 (rep : Repeat) (s : State) : Host.Outcome State Fault Refusal :=
  generate .xs32 xs32Next rep (finishReal (realOpen params)) s

/-- GENR.XS64 (R261). -/
def execGenrXs64 (rep : Repeat) (s : State) : Host.Outcome State Fault Refusal :=
  generate .xs64 xs64Next rep (finishReal (realOpen params)) s

/-- GENR.XS128 (R262). -/
def execGenrXs128 (rep : Repeat) (s : State) : Host.Outcome State Fault Refusal :=
  generate .xs128 xs128Next rep (finishReal (realOpen params)) s

/-- GENR.XS64S (R263). -/
def execGenrXs64s (rep : Repeat) (s : State) : Host.Outcome State Fault Refusal :=
  generate .xs64s xs64sNext rep (finishReal (realOpen params)) s

/-- GENR.XS1024S (R264). -/
def execGenrXs1024s (rep : Repeat) (s : State) : Host.Outcome State Fault Refusal :=
  generate .xs1024s xs1024sNext rep (finishReal (realOpen params)) s

/-- GENR.PCG32_LCG_XSHRR (R265). -/
def execGenrPcg32LcgXshrr (rep : Repeat) (s : State) : Host.Outcome State Fault Refusal :=
  generate .pcg32LcgXshrr pcg32LcgXshrrNext rep (finishReal (realOpen params)) s

/-- GENR.PCG32_LCG_XSHRS (R266). -/
def execGenrPcg32LcgXshrs (rep : Repeat) (s : State) : Host.Outcome State Fault Refusal :=
  generate .pcg32LcgXshrs pcg32LcgXshrsNext rep (finishReal (realOpen params)) s

/-- GENR.PCG32_MCG_XSHRR (R267). -/
def execGenrPcg32McgXshrr (rep : Repeat) (s : State) : Host.Outcome State Fault Refusal :=
  generate .pcg32McgXshrr pcg32McgXshrrNext rep (finishReal (realOpen params)) s

/-- GENR.PCG32_MCG_XSHRS (R268). -/
def execGenrPcg32McgXshrs (rep : Repeat) (s : State) : Host.Outcome State Fault Refusal :=
  generate .pcg32McgXshrs pcg32McgXshrsNext rep (finishReal (realOpen params)) s

/-- GENR.PCG64_LCG_XSLRR (R269). -/
def execGenrPcg64LcgXslrr (rep : Repeat) (s : State) : Host.Outcome State Fault Refusal :=
  generate .pcg64LcgXslrr pcg64LcgXslrrNext rep (finishReal (realOpen params)) s

/-- GENR.PCG64_MCG_XSLRR (R270). -/
def execGenrPcg64McgXslrr (rep : Repeat) (s : State) : Host.Outcome State Fault Refusal :=
  generate .pcg64McgXslrr pcg64McgXslrrNext rep (finishReal (realOpen params)) s

/-- GENR.MT64 (R271). -/
def execGenrMt64 (rep : Repeat) (s : State) : Host.Outcome State Fault Refusal :=
  mtAsserted s (generate .mt64 mt64Next rep (finishReal (realOpen params)) s)

/-! ### GENRC (section 4.2) -/

/-- GENRC.XS32 (R272). -/
def execGenrcXs32 (rep : Repeat) (s : State) : Host.Outcome State Fault Refusal :=
  generate .xs32 xs32Next rep (finishReal (realClosed params)) s

/-- GENRC.XS64 (R273). -/
def execGenrcXs64 (rep : Repeat) (s : State) : Host.Outcome State Fault Refusal :=
  generate .xs64 xs64Next rep (finishReal (realClosed params)) s

/-- GENRC.XS128 (R274). -/
def execGenrcXs128 (rep : Repeat) (s : State) : Host.Outcome State Fault Refusal :=
  generate .xs128 xs128Next rep (finishReal (realClosed params)) s

/-- GENRC.XS64S (R275). -/
def execGenrcXs64s (rep : Repeat) (s : State) : Host.Outcome State Fault Refusal :=
  generate .xs64s xs64sNext rep (finishReal (realClosed params)) s

/-- GENRC.XS1024S (R276). -/
def execGenrcXs1024s (rep : Repeat) (s : State) : Host.Outcome State Fault Refusal :=
  generate .xs1024s xs1024sNext rep (finishReal (realClosed params)) s

/-- GENRC.PCG32_LCG_XSHRR (R277). -/
def execGenrcPcg32LcgXshrr (rep : Repeat) (s : State) : Host.Outcome State Fault Refusal :=
  generate .pcg32LcgXshrr pcg32LcgXshrrNext rep (finishReal (realClosed params)) s

/-- GENRC.PCG32_LCG_XSHRS (R278). -/
def execGenrcPcg32LcgXshrs (rep : Repeat) (s : State) : Host.Outcome State Fault Refusal :=
  generate .pcg32LcgXshrs pcg32LcgXshrsNext rep (finishReal (realClosed params)) s

/-- GENRC.PCG32_MCG_XSHRR (R279). -/
def execGenrcPcg32McgXshrr (rep : Repeat) (s : State) : Host.Outcome State Fault Refusal :=
  generate .pcg32McgXshrr pcg32McgXshrrNext rep (finishReal (realClosed params)) s

/-- GENRC.PCG32_MCG_XSHRS (R280). -/
def execGenrcPcg32McgXshrs (rep : Repeat) (s : State) : Host.Outcome State Fault Refusal :=
  generate .pcg32McgXshrs pcg32McgXshrsNext rep (finishReal (realClosed params)) s

/-- GENRC.PCG64_LCG_XSLRR (R281). -/
def execGenrcPcg64LcgXslrr (rep : Repeat) (s : State) : Host.Outcome State Fault Refusal :=
  generate .pcg64LcgXslrr pcg64LcgXslrrNext rep (finishReal (realClosed params)) s

/-- GENRC.PCG64_MCG_XSLRR (R282). -/
def execGenrcPcg64McgXslrr (rep : Repeat) (s : State) : Host.Outcome State Fault Refusal :=
  generate .pcg64McgXslrr pcg64McgXslrrNext rep (finishReal (realClosed params)) s

/-- GENRC.MT64 (R283). -/
def execGenrcMt64 (rep : Repeat) (s : State) : Host.Outcome State Fault Refusal :=
  mtAsserted s (generate .mt64 mt64Next rep (finishReal (realClosed params)) s)

/-! ### GENRR (section 4.3) -/

/-- GENRR.XS32 (R284). -/
def execGenrrXs32 (rep : Repeat) (lo hi : U64) (s : State) : Host.Outcome State Fault Refusal :=
  generate .xs32 xs32Next rep (finishReal (realRange params lo hi)) s

/-- GENRR.XS64 (R285). -/
def execGenrrXs64 (rep : Repeat) (lo hi : U64) (s : State) : Host.Outcome State Fault Refusal :=
  generate .xs64 xs64Next rep (finishReal (realRange params lo hi)) s

/-- GENRR.XS128 (R286). -/
def execGenrrXs128 (rep : Repeat) (lo hi : U64) (s : State) : Host.Outcome State Fault Refusal :=
  generate .xs128 xs128Next rep (finishReal (realRange params lo hi)) s

/-- GENRR.XS64S (R287). -/
def execGenrrXs64s (rep : Repeat) (lo hi : U64) (s : State) : Host.Outcome State Fault Refusal :=
  generate .xs64s xs64sNext rep (finishReal (realRange params lo hi)) s

/-- GENRR.XS1024S (R288). -/
def execGenrrXs1024s (rep : Repeat) (lo hi : U64) (s : State) : Host.Outcome State Fault Refusal :=
  generate .xs1024s xs1024sNext rep (finishReal (realRange params lo hi)) s

/-- GENRR.PCG32_LCG_XSHRR (R289). -/
def execGenrrPcg32LcgXshrr (rep : Repeat) (lo hi : U64) (s : State) : Host.Outcome State Fault Refusal :=
  generate .pcg32LcgXshrr pcg32LcgXshrrNext rep (finishReal (realRange params lo hi)) s

/-- GENRR.PCG32_LCG_XSHRS (R290). -/
def execGenrrPcg32LcgXshrs (rep : Repeat) (lo hi : U64) (s : State) : Host.Outcome State Fault Refusal :=
  generate .pcg32LcgXshrs pcg32LcgXshrsNext rep (finishReal (realRange params lo hi)) s

/-- GENRR.PCG32_MCG_XSHRR (R291). -/
def execGenrrPcg32McgXshrr (rep : Repeat) (lo hi : U64) (s : State) : Host.Outcome State Fault Refusal :=
  generate .pcg32McgXshrr pcg32McgXshrrNext rep (finishReal (realRange params lo hi)) s

/-- GENRR.PCG32_MCG_XSHRS (R292). -/
def execGenrrPcg32McgXshrs (rep : Repeat) (lo hi : U64) (s : State) : Host.Outcome State Fault Refusal :=
  generate .pcg32McgXshrs pcg32McgXshrsNext rep (finishReal (realRange params lo hi)) s

/-- GENRR.PCG64_LCG_XSLRR (R293). -/
def execGenrrPcg64LcgXslrr (rep : Repeat) (lo hi : U64) (s : State) : Host.Outcome State Fault Refusal :=
  generate .pcg64LcgXslrr pcg64LcgXslrrNext rep (finishReal (realRange params lo hi)) s

/-- GENRR.PCG64_MCG_XSLRR (R294). -/
def execGenrrPcg64McgXslrr (rep : Repeat) (lo hi : U64) (s : State) : Host.Outcome State Fault Refusal :=
  generate .pcg64McgXslrr pcg64McgXslrrNext rep (finishReal (realRange params lo hi)) s

/-- GENRR.MT64 (R295). -/
def execGenrrMt64 (rep : Repeat) (lo hi : U64) (s : State) : Host.Outcome State Fault Refusal :=
  mtAsserted s (generate .mt64 mt64Next rep (finishReal (realRange params lo hi)) s)

end Sys2Proof.Machine
end

