-- ==== Sys2Proof/Machine/Dispatch.lean ====
section
/-! DEFINITION. One arm for each command, each one direct call of that command's meaning. Checks 6 and 7 of
60_exceptions.md R342 are in the meanings; checks 1 to 5 are the decoder's. -/

namespace Sys2Proof.Machine

def exec (i : Instr) (s : State) : Host.Outcome State Fault Refusal :=
  match i with
  | .seedXs32 op0 => Sys2Proof.Machine.execSeedXs32 op0 s
  | .seedXs64 op0 => Sys2Proof.Machine.execSeedXs64 op0 s
  | .seedXs128 op0 op1 => Sys2Proof.Machine.execSeedXs128 op0 op1 s
  | .seedXs64s op0 => Sys2Proof.Machine.execSeedXs64s op0 s
  | .seedPcg32LcgXshrr op0 => Sys2Proof.Machine.execSeedPcg32LcgXshrr op0 s
  | .seedPcg32LcgXshrs op0 => Sys2Proof.Machine.execSeedPcg32LcgXshrs op0 s
  | .seedPcg32McgXshrr op0 => Sys2Proof.Machine.execSeedPcg32McgXshrr op0 s
  | .seedPcg32McgXshrs op0 => Sys2Proof.Machine.execSeedPcg32McgXshrs op0 s
  | .seedPcg64LcgXslrr op0 op1 => Sys2Proof.Machine.execSeedPcg64LcgXslrr op0 op1 s
  | .seedPcg64McgXslrr op0 op1 => Sys2Proof.Machine.execSeedPcg64McgXslrr op0 op1 s
  | .seedMt64 op0 => Sys2Proof.Machine.execSeedMt64 op0 s
  | .seedaXs1024s key => Sys2Proof.Machine.execSeedaXs1024s key s
  | .seedaMt64 key => Sys2Proof.Machine.execSeedaMt64 key s
  | .genXs32 rep => Sys2Proof.Machine.execGenXs32 rep s
  | .genXs64 rep => Sys2Proof.Machine.execGenXs64 rep s
  | .genXs128 rep => Sys2Proof.Machine.execGenXs128 rep s
  | .genXs64s rep => Sys2Proof.Machine.execGenXs64s rep s
  | .genXs1024s rep => Sys2Proof.Machine.execGenXs1024s rep s
  | .genPcg32LcgXshrr rep => Sys2Proof.Machine.execGenPcg32LcgXshrr rep s
  | .genPcg32LcgXshrs rep => Sys2Proof.Machine.execGenPcg32LcgXshrs rep s
  | .genPcg32McgXshrr rep => Sys2Proof.Machine.execGenPcg32McgXshrr rep s
  | .genPcg32McgXshrs rep => Sys2Proof.Machine.execGenPcg32McgXshrs rep s
  | .genPcg64LcgXslrr rep => Sys2Proof.Machine.execGenPcg64LcgXslrr rep s
  | .genPcg64McgXslrr rep => Sys2Proof.Machine.execGenPcg64McgXslrr rep s
  | .genMt64 rep => Sys2Proof.Machine.execGenMt64 rep s
  | .genrXs32 rep => Sys2Proof.Machine.execGenrXs32 rep s
  | .genrXs64 rep => Sys2Proof.Machine.execGenrXs64 rep s
  | .genrXs128 rep => Sys2Proof.Machine.execGenrXs128 rep s
  | .genrXs64s rep => Sys2Proof.Machine.execGenrXs64s rep s
  | .genrXs1024s rep => Sys2Proof.Machine.execGenrXs1024s rep s
  | .genrPcg32LcgXshrr rep => Sys2Proof.Machine.execGenrPcg32LcgXshrr rep s
  | .genrPcg32LcgXshrs rep => Sys2Proof.Machine.execGenrPcg32LcgXshrs rep s
  | .genrPcg32McgXshrr rep => Sys2Proof.Machine.execGenrPcg32McgXshrr rep s
  | .genrPcg32McgXshrs rep => Sys2Proof.Machine.execGenrPcg32McgXshrs rep s
  | .genrPcg64LcgXslrr rep => Sys2Proof.Machine.execGenrPcg64LcgXslrr rep s
  | .genrPcg64McgXslrr rep => Sys2Proof.Machine.execGenrPcg64McgXslrr rep s
  | .genrMt64 rep => Sys2Proof.Machine.execGenrMt64 rep s
  | .genrcXs32 rep => Sys2Proof.Machine.execGenrcXs32 rep s
  | .genrcXs64 rep => Sys2Proof.Machine.execGenrcXs64 rep s
  | .genrcXs128 rep => Sys2Proof.Machine.execGenrcXs128 rep s
  | .genrcXs64s rep => Sys2Proof.Machine.execGenrcXs64s rep s
  | .genrcXs1024s rep => Sys2Proof.Machine.execGenrcXs1024s rep s
  | .genrcPcg32LcgXshrr rep => Sys2Proof.Machine.execGenrcPcg32LcgXshrr rep s
  | .genrcPcg32LcgXshrs rep => Sys2Proof.Machine.execGenrcPcg32LcgXshrs rep s
  | .genrcPcg32McgXshrr rep => Sys2Proof.Machine.execGenrcPcg32McgXshrr rep s
  | .genrcPcg32McgXshrs rep => Sys2Proof.Machine.execGenrcPcg32McgXshrs rep s
  | .genrcPcg64LcgXslrr rep => Sys2Proof.Machine.execGenrcPcg64LcgXslrr rep s
  | .genrcPcg64McgXslrr rep => Sys2Proof.Machine.execGenrcPcg64McgXslrr rep s
  | .genrcMt64 rep => Sys2Proof.Machine.execGenrcMt64 rep s
  | .genrrXs32 rep lo hi => Sys2Proof.Machine.execGenrrXs32 rep lo hi s
  | .genrrXs64 rep lo hi => Sys2Proof.Machine.execGenrrXs64 rep lo hi s
  | .genrrXs128 rep lo hi => Sys2Proof.Machine.execGenrrXs128 rep lo hi s
  | .genrrXs64s rep lo hi => Sys2Proof.Machine.execGenrrXs64s rep lo hi s
  | .genrrXs1024s rep lo hi => Sys2Proof.Machine.execGenrrXs1024s rep lo hi s
  | .genrrPcg32LcgXshrr rep lo hi => Sys2Proof.Machine.execGenrrPcg32LcgXshrr rep lo hi s
  | .genrrPcg32LcgXshrs rep lo hi => Sys2Proof.Machine.execGenrrPcg32LcgXshrs rep lo hi s
  | .genrrPcg32McgXshrr rep lo hi => Sys2Proof.Machine.execGenrrPcg32McgXshrr rep lo hi s
  | .genrrPcg32McgXshrs rep lo hi => Sys2Proof.Machine.execGenrrPcg32McgXshrs rep lo hi s
  | .genrrPcg64LcgXslrr rep lo hi => Sys2Proof.Machine.execGenrrPcg64LcgXslrr rep lo hi s
  | .genrrPcg64McgXslrr rep lo hi => Sys2Proof.Machine.execGenrrPcg64McgXslrr rep lo hi s
  | .genrrMt64 rep lo hi => Sys2Proof.Machine.execGenrrMt64 rep lo hi s
  | .status => Sys2Proof.Machine.execStatus s

end Sys2Proof.Machine
end

