-- ==== Sys2Proof/Machine/Step.lean ====
section
/-! DEFINITION. One step of the command sequencer (10_state.md R20, 20_memory.md R54), and how an instruction is
put where the next step takes it. The block has no program counter and fetches nothing (10_state.md R30,
20_memory.md R58): the next instruction is the next command of the host's stream. -/

namespace Sys2Proof.Machine

/-- One step: take the host's next action. With none pending the block idles and holds its state
(60_exceptions.md R355). A command is decoded (checks 1 to 5 of R342) and executed to completion. -/
def step (s : State) : Host.Outcome State Fault Refusal :=
  match takeAction s with
  | (none, t) => .next t
  | (some .reset, t) => .next (resetBlock t)
  | (some (.command w ops), t) =>
    match decode w ops with
    | .instr i => exec i t
    | .fault c => raise c t
    | .wrongOperandCount => .refused .operandCount

/-- `s` with the transaction whose bits are `w` delivered by the host ahead of every pending action, so that
the next step takes it (notes/assumptions/2.md, 19.md). -/
def State.withFetchWord (s : State) (nbits w : Nat) : State :=
  deliverFirst (tableCommandWord nbits w) (tableOperandWords nbits w) s

end Sys2Proof.Machine
end

