-- ==== Sys2Proof/Machine/Assembler.lean ====
section
/-! DEFINITION. The assembler of 30_encoding.md R78: one line of text to one command. It is the host's tool, not
a part of the block: no step calls it. A line outside R78's forms is refused (70_reset_and_hazards.md R399). What
R78 leaves open of its literals is fixed in notes/assumptions/12.md. There are no pseudo-instructions (R79). -/

namespace Sys2Proof.Machine

/-! ### Tokens -/

/-- A token of the operand part of a line. -/
inductive AsmToken where
  | lbrace
  | rbrace
  | comma
  | atom (text : List Char)
  deriving DecidableEq, Repr

/-- Blank characters. -/
def asmBlank (c : Char) : Bool := decide (c = ' ') || decide (c = '\t')

/-- The token a punctuation character is, if it is one. -/
def asmPunct (c : Char) : Option AsmToken :=
  if c.toNat = 123 then some .lbrace
  else if c.toNat = 125 then some .rbrace
  else if c = ',' then some .comma
  else none

/-- The tokens a pending atom makes: one, or none where it is empty. `acc` holds its characters reversed. -/
def asmFlush (acc : List Char) : List AsmToken :=
  if acc.isEmpty then [] else [.atom acc.reverse]

/-- The tokens of a text, `acc` being the atom in progress, reversed. -/
def asmTokens : List Char → List Char → List AsmToken
  | [], acc => asmFlush acc
  | c :: cs, acc =>
    if asmBlank c then asmFlush acc ++ asmTokens cs []
    else
      match asmPunct c with
      | some t => asmFlush acc ++ t :: asmTokens cs []
      | none => asmTokens cs (c :: acc)

/-- A line without its comment (R78: `;` starts a comment). -/
def asmCode (line : List Char) : List Char := line.takeWhile (fun c => decide (c ≠ ';'))

/-! ### Literals -/

/-- The value of a digit in the given base (10 or 16). -/
def asmDigit (base : Nat) (c : Char) : Option Nat :=
  let v :=
    if '0' ≤ c ∧ c ≤ '9' then some (c.toNat - '0'.toNat)
    else if 'a' ≤ c ∧ c ≤ 'f' then some (c.toNat - 'a'.toNat + 10)
    else if 'A' ≤ c ∧ c ≤ 'F' then some (c.toNat - 'A'.toNat + 10)
    else none
  v.filter fun d => decide (d < base)

/-- The number a list of digits continues, `acc` being what was read so far. -/
def asmDigits (base : Nat) : List Char → Nat → Option Nat
  | [], acc => some acc
  | c :: cs, acc => (asmDigit base c).bind fun d => asmDigits base cs (acc * base + d)

/-- A number of at least one digit. -/
def asmNumber (base : Nat) (cs : List Char) : Option Nat :=
  if cs.isEmpty then none else asmDigits base cs 0

/-- `<integer>` (R78): decimal, or `0x` hexadecimal. -/
def asmInteger (cs : List Char) : Option Nat :=
  match cs with
  | '0' :: 'x' :: hex => asmNumber 16 hex
  | _ => asmNumber 10 cs

/-- A decimal point splits the digits; `none` where there is no point. -/
def asmSplit (p : Char → Bool) (cs : List Char) : List Char × Option (List Char) :=
  (cs.takeWhile (fun c => !p c), (cs.dropWhile (fun c => !p c)).tail?)

/-- A signed decimal exponent. -/
def asmExponent (cs : List Char) : Option Int :=
  match cs with
  | '-' :: ds => (asmNumber 10 ds).map fun n => -(n : Int)
  | '+' :: ds => (asmNumber 10 ds).map fun n => (n : Int)
  | _ => (asmNumber 10 cs).map fun n => (n : Int)

/-- The binary64 nearest to ± num / den, ties to even (R78). The quotient is taken to 2^-1076 with a last bit
that says whether anything was cut off, which is below every rounding place. -/
def f64OfRatio (neg : Bool) (num den : Nat) : U64 :=
  let n := num * 2 ^ 1076
  f64Round neg (2 * (n / den) + (if n % den = 0 then 0 else 1)) 1077

/-- ± digits · 10^e as a binary64. -/
def f64OfDecimal (neg : Bool) (digits : Nat) (e : Int) : U64 :=
  if e < 0 then f64OfRatio neg digits (10 ^ e.natAbs) else f64OfRatio neg (digits * 10 ^ e.natAbs) 1

/-- An unsigned decimal literal: digits, an optional point with digits, an optional exponent. -/
def asmDecimal (neg : Bool) (cs : List Char) : Option U64 :=
  let parts := asmSplit (fun c => decide (c = 'e') || decide (c = 'E')) cs
  let mant := asmSplit (fun c => decide (c = '.')) parts.1
  (asmNumber 10 mant.1).bind fun _ =>
    (match mant.2 with
      | none => some []
      | some f => (asmNumber 10 f).map fun _ => f).bind fun frac =>
      (match parts.2 with
        | none => some 0
        | some x => asmExponent x).bind fun e =>
        (asmNumber 10 (mant.1 ++ frac)).map fun d => f64OfDecimal neg d (e - frac.length)

/-- `<real>` (R78): a decimal binary64 literal, or `f64:0x` and 16 hexadecimal digits. -/
def asmReal (cs : List Char) : Option U64 :=
  match cs with
  | 'f' :: '6' :: '4' :: ':' :: '0' :: 'x' :: hex =>
    if hex.length = 16 then (asmNumber 16 hex).map (BitVec.ofNat 64) else none
  | '-' :: ds => asmDecimal true ds
  | _ => asmDecimal false cs

/-! ### Names -/

/-- The operation names (30_encoding.md R67). -/
def asmOp (cs : List Char) : Option Op :=
  if cs = "SEED".toList then some .seed
  else if cs = "SEEDA".toList then some .seeda
  else if cs = "GEN".toList then some .gen
  else if cs = "GENR".toList then some .genr
  else if cs = "GENRC".toList then some .genrc
  else if cs = "GENRR".toList then some .genrr
  else if cs = "STATUS".toList then some .status
  else none

/-- The engine names (00_scope.md R2). -/
def asmEngine (cs : List Char) : Option Engine :=
  if cs = "XS32".toList then some .xs32
  else if cs = "XS64".toList then some .xs64
  else if cs = "XS128".toList then some .xs128
  else if cs = "XS64S".toList then some .xs64s
  else if cs = "XS1024S".toList then some .xs1024s
  else if cs = "PCG32_LCG_XSHRR".toList then some .pcg32LcgXshrr
  else if cs = "PCG32_LCG_XSHRS".toList then some .pcg32LcgXshrs
  else if cs = "PCG32_MCG_XSHRR".toList then some .pcg32McgXshrr
  else if cs = "PCG32_MCG_XSHRS".toList then some .pcg32McgXshrs
  else if cs = "PCG64_LCG_XSLRR".toList then some .pcg64LcgXslrr
  else if cs = "PCG64_MCG_XSLRR".toList then some .pcg64McgXslrr
  else if cs = "MT64".toList then some .mt64
  else none

/-! ### Operand parts -/

/-- `n=<count>` or nothing (R78): an omitted `n=` is BULK = 0, `n=1` is BULK = 1 with CNT = 1. -/
def asmRepeat (ts : List AsmToken) : Option Repeat :=
  match ts with
  | [] => some .single
  | [.atom ('n' :: '=' :: cs)] =>
    (asmInteger cs).bind fun n => if n ≤ 65535 then some (.bulk (BitVec.ofNat 16 n)) else none
  | _ => none

/-- A literal that fits one operand word. R78 states no bound for an integer literal: that one of 2^64 or more is
refused is the model's (DESIGN CHOICE, notes/assumptions/12.md). -/
def asmWord (cs : List Char) : Option U64 :=
  (asmInteger cs).bind fun n => if n < 2 ^ 64 then some (BitVec.ofNat 64 n) else none

/-- The operand words of SEED: a 128-bit seed is split, the high word first (R78). R78 bounds no literal on the other
engines: the model takes any below 2^64 there, XS32 included, whose upper 32 bits go into op[0] as written, and
refuses larger ones; and it refuses 2^128 or more on the 128-bit engines (DESIGN CHOICE, notes/assumptions/12.md). -/
def asmSeedWords (e : Engine) (cs : List Char) : Option (List U64) :=
  (asmInteger cs).bind fun n =>
    if operandCount .seed e 0#16 = 2 then
      if n < 2 ^ 128 then some [BitVec.ofNat 64 (n / 2 ^ 64), BitVec.ofNat 64 n] else none
    else if n < 2 ^ 64 then some [BitVec.ofNat 64 n] else none

/-- The rest of a key list after its first word, up to the closing brace. -/
def asmKeyRest : List AsmToken → Option (List U64)
  | [.rbrace] => some []
  | .comma :: .atom cs :: ts =>
    (asmWord cs).bind fun v => (asmKeyRest ts).map fun vs => v :: vs
  | _ => none

/-- The key of SEEDA: a list of integers in braces, which may be empty. -/
def asmKey (ts : List AsmToken) : Option (List U64) :=
  match ts with
  | [.lbrace, .rbrace] => some []
  | .lbrace :: .atom cs :: rest =>
    (asmWord cs).bind fun v => (asmKeyRest rest).map fun vs => v :: vs
  | _ => none

/-- The command of an operation and engine from the operand tokens (R78); a pair outside 30_encoding.md R75 is
never emitted. -/
def asmCommand (op : Op) (e : Engine) (ts : List AsmToken) : Option Instr :=
  match op, ts with
  | .seed, [.atom cs] => (asmSeedWords e cs).bind (buildSeed e)
  | .seeda, ts => (asmKey ts).bind (buildSeeda e)
  | .gen, ts => (asmRepeat ts).map fun r => buildGen r e
  | .genr, ts => (asmRepeat ts).map fun r => buildGenr r e
  | .genrc, ts => (asmRepeat ts).map fun r => buildGenrc r e
  | .genrr, .atom lo :: .comma :: .atom hi :: ts =>
    (asmReal lo).bind fun lo => (asmReal hi).bind fun hi =>
      (asmRepeat ts).map fun r => buildGenrr r lo hi e
  | _, _ => none

/-- The command of a line's tokens: a mnemonic `<OP>.<eng>` and its operands, or `STATUS` alone. -/
def asmLine (ts : List AsmToken) : Option Instr :=
  match ts with
  | .atom name :: rest =>
    let parts := asmSplit (fun c => decide (c = '.')) name
    match asmOp parts.1, parts.2 with
    | some .status, none => if rest = [] then some .status else none
    | some op, some eng => (asmEngine eng).bind fun e => asmCommand op e rest
    | _, _ => none
  | _ => none

/-- Assemble one line (R78). Anything outside the forms is refused, and so is a key of more than 65535 words
(42_mt64.md R210, 70_reset_and_hazards.md R399). -/
def assemble (line : String) : Except Refusal Instr :=
  match asmLine (asmTokens (asmCode line.toList) []) with
  | none => .error .assemblerForm
  | some i => if i.wellFormed then .ok i else .error .keyTooLong

end Sys2Proof.Machine
end

