-- ==== Sys2Proof/Safety.lean ====
section
/-! DEFINITION. The terms claims about the block use: the invariant of 10_state.md R33, clean runs and
observations (70_reset_and_hazards.md R387), the engine and the kind of a command, agreement of two blocks on one
engine, the block as the host can see it, and round to nearest even (00_scope.md R8) said as a property. -/

namespace Sys2Proof.Safety

open Sys2Proof.Machine

/-! ### The invariant -/

/-- The stored STATUS fields are as 10_state.md R31 says: no cause while FAULTED = 0, causes 1 to 7 of
60_exceptions.md R341 once FAULTED = 1. -/
def faultsOk (f : FaultLog) : Prop :=
  if f.faulted then 1 ≤ f.firstCause.toNat ∧ f.firstCause.toNat ≤ 7 ∧ 1 ≤ f.lastCause.toNat ∧ f.lastCause.toNat ≤ 7
  else f.firstCause = 0#4 ∧ f.lastCause = 0#4

/-- A response is as 30_encoding.md R74 says: a status of R341, and no result words unless the status is OK. -/
def responseOk (r : Response) : Prop :=
  r.status.toNat ≤ 7 ∧ (r.status ≠ 0#4 → r.results = [])

/-- The invariant of 10_state.md R33: the MT64 array has its 312 words, its cursor is at most 313, STATUS and the
responses hold only the values the spec lists. The widths of the other registers and the ring cursor's range are
their types'. -/
def Inv (s : State) : Prop :=
  s.mt64.mt.length = 312 ∧ s.mt64.idx.toNat ≤ 313 ∧ faultsOk s.faults ∧ ∀ r ∈ s.responses, responseOk r

/-! ### Runs (70_reset_and_hazards.md R387) -/

/-- The observation of a run that ended in `s`: its responses and the final STATUS. -/
def observation (s : State) : List Response × U64 := (s.responses, statusWord s.toBlock)

/-- The run that ended in the next state `s` is clean: every response has status OK, and FAULTED = 0. A run with
a refused transaction ends in no next state. -/
def Clean (s : State) : Prop := (∀ r ∈ s.responses, r.status = 0#4) ∧ s.faults.faulted = false

/-- The results of the last response. -/
def lastResponse (s : State) : Option Response := s.responses.getLast?

/-! ### Kinds of commands -/

/-- The engine and the repeat form of a generation command: the 48 commands GEN, GENR, GENRC and GENRR
(60_exceptions.md R343). -/
def generation : Instr → Option (Engine × Repeat)
  | .seedXs32 _ => none
  | .seedXs64 _ => none
  | .seedXs128 _ _ => none
  | .seedXs64s _ => none
  | .seedPcg32LcgXshrr _ => none
  | .seedPcg32LcgXshrs _ => none
  | .seedPcg32McgXshrr _ => none
  | .seedPcg32McgXshrs _ => none
  | .seedPcg64LcgXslrr _ _ => none
  | .seedPcg64McgXslrr _ _ => none
  | .seedMt64 _ => none
  | .seedaXs1024s _ => none
  | .seedaMt64 _ => none
  | .genXs32 rep => some (.xs32, rep)
  | .genXs64 rep => some (.xs64, rep)
  | .genXs128 rep => some (.xs128, rep)
  | .genXs64s rep => some (.xs64s, rep)
  | .genXs1024s rep => some (.xs1024s, rep)
  | .genPcg32LcgXshrr rep => some (.pcg32LcgXshrr, rep)
  | .genPcg32LcgXshrs rep => some (.pcg32LcgXshrs, rep)
  | .genPcg32McgXshrr rep => some (.pcg32McgXshrr, rep)
  | .genPcg32McgXshrs rep => some (.pcg32McgXshrs, rep)
  | .genPcg64LcgXslrr rep => some (.pcg64LcgXslrr, rep)
  | .genPcg64McgXslrr rep => some (.pcg64McgXslrr, rep)
  | .genMt64 rep => some (.mt64, rep)
  | .genrXs32 rep => some (.xs32, rep)
  | .genrXs64 rep => some (.xs64, rep)
  | .genrXs128 rep => some (.xs128, rep)
  | .genrXs64s rep => some (.xs64s, rep)
  | .genrXs1024s rep => some (.xs1024s, rep)
  | .genrPcg32LcgXshrr rep => some (.pcg32LcgXshrr, rep)
  | .genrPcg32LcgXshrs rep => some (.pcg32LcgXshrs, rep)
  | .genrPcg32McgXshrr rep => some (.pcg32McgXshrr, rep)
  | .genrPcg32McgXshrs rep => some (.pcg32McgXshrs, rep)
  | .genrPcg64LcgXslrr rep => some (.pcg64LcgXslrr, rep)
  | .genrPcg64McgXslrr rep => some (.pcg64McgXslrr, rep)
  | .genrMt64 rep => some (.mt64, rep)
  | .genrcXs32 rep => some (.xs32, rep)
  | .genrcXs64 rep => some (.xs64, rep)
  | .genrcXs128 rep => some (.xs128, rep)
  | .genrcXs64s rep => some (.xs64s, rep)
  | .genrcXs1024s rep => some (.xs1024s, rep)
  | .genrcPcg32LcgXshrr rep => some (.pcg32LcgXshrr, rep)
  | .genrcPcg32LcgXshrs rep => some (.pcg32LcgXshrs, rep)
  | .genrcPcg32McgXshrr rep => some (.pcg32McgXshrr, rep)
  | .genrcPcg32McgXshrs rep => some (.pcg32McgXshrs, rep)
  | .genrcPcg64LcgXslrr rep => some (.pcg64LcgXslrr, rep)
  | .genrcPcg64McgXslrr rep => some (.pcg64McgXslrr, rep)
  | .genrcMt64 rep => some (.mt64, rep)
  | .genrrXs32 rep _ _ => some (.xs32, rep)
  | .genrrXs64 rep _ _ => some (.xs64, rep)
  | .genrrXs128 rep _ _ => some (.xs128, rep)
  | .genrrXs64s rep _ _ => some (.xs64s, rep)
  | .genrrXs1024s rep _ _ => some (.xs1024s, rep)
  | .genrrPcg32LcgXshrr rep _ _ => some (.pcg32LcgXshrr, rep)
  | .genrrPcg32LcgXshrs rep _ _ => some (.pcg32LcgXshrs, rep)
  | .genrrPcg32McgXshrr rep _ _ => some (.pcg32McgXshrr, rep)
  | .genrrPcg32McgXshrs rep _ _ => some (.pcg32McgXshrs, rep)
  | .genrrPcg64LcgXslrr rep _ _ => some (.pcg64LcgXslrr, rep)
  | .genrrPcg64McgXslrr rep _ _ => some (.pcg64McgXslrr, rep)
  | .genrrMt64 rep _ _ => some (.mt64, rep)
  | .status => none

/-- The engine a seeding command seeds: the 11 SEED and the 2 SEEDA commands. -/
def seeding : Instr → Option Engine
  | .seedXs32 _ => some .xs32
  | .seedXs64 _ => some .xs64
  | .seedXs128 _ _ => some .xs128
  | .seedXs64s _ => some .xs64s
  | .seedPcg32LcgXshrr _ => some .pcg32LcgXshrr
  | .seedPcg32LcgXshrs _ => some .pcg32LcgXshrs
  | .seedPcg32McgXshrr _ => some .pcg32McgXshrr
  | .seedPcg32McgXshrs _ => some .pcg32McgXshrs
  | .seedPcg64LcgXslrr _ _ => some .pcg64LcgXslrr
  | .seedPcg64McgXslrr _ _ => some .pcg64McgXslrr
  | .seedMt64 _ => some .mt64
  | .seedaXs1024s _ => some .xs1024s
  | .seedaMt64 _ => some .mt64
  | .genXs32 _ => none
  | .genXs64 _ => none
  | .genXs128 _ => none
  | .genXs64s _ => none
  | .genXs1024s _ => none
  | .genPcg32LcgXshrr _ => none
  | .genPcg32LcgXshrs _ => none
  | .genPcg32McgXshrr _ => none
  | .genPcg32McgXshrs _ => none
  | .genPcg64LcgXslrr _ => none
  | .genPcg64McgXslrr _ => none
  | .genMt64 _ => none
  | .genrXs32 _ => none
  | .genrXs64 _ => none
  | .genrXs128 _ => none
  | .genrXs64s _ => none
  | .genrXs1024s _ => none
  | .genrPcg32LcgXshrr _ => none
  | .genrPcg32LcgXshrs _ => none
  | .genrPcg32McgXshrr _ => none
  | .genrPcg32McgXshrs _ => none
  | .genrPcg64LcgXslrr _ => none
  | .genrPcg64McgXslrr _ => none
  | .genrMt64 _ => none
  | .genrcXs32 _ => none
  | .genrcXs64 _ => none
  | .genrcXs128 _ => none
  | .genrcXs64s _ => none
  | .genrcXs1024s _ => none
  | .genrcPcg32LcgXshrr _ => none
  | .genrcPcg32LcgXshrs _ => none
  | .genrcPcg32McgXshrr _ => none
  | .genrcPcg32McgXshrs _ => none
  | .genrcPcg64LcgXslrr _ => none
  | .genrcPcg64McgXslrr _ => none
  | .genrcMt64 _ => none
  | .genrrXs32 _ _ _ => none
  | .genrrXs64 _ _ _ => none
  | .genrrXs128 _ _ _ => none
  | .genrrXs64s _ _ _ => none
  | .genrrXs1024s _ _ _ => none
  | .genrrPcg32LcgXshrr _ _ _ => none
  | .genrrPcg32LcgXshrs _ _ _ => none
  | .genrrPcg32McgXshrr _ _ _ => none
  | .genrrPcg32McgXshrs _ _ _ => none
  | .genrrPcg64LcgXslrr _ _ _ => none
  | .genrrPcg64McgXslrr _ _ _ => none
  | .genrrMt64 _ _ _ => none
  | .status => none

/-- The raw output width w of an engine (00_scope.md R2). -/
def width : Engine → Nat
  | .xs32 => 32
  | .xs64 => 64
  | .xs128 => 128
  | .xs64s => 64
  | .xs1024s => 64
  | .pcg32LcgXshrr => 32
  | .pcg32LcgXshrs => 32
  | .pcg32McgXshrr => 32
  | .pcg32McgXshrs => 32
  | .pcg64LcgXslrr => 64
  | .pcg64McgXslrr => 64
  | .mt64 => 64

/-- How many result words one raw output of an engine takes (30_encoding.md R73). -/
def rawWords (e : Engine) : Nat := if width e = 128 then 2 else 1

/-! ### Agreement on engines -/

/-- Two blocks hold the same state of engine e: its registers and its seeded flag. -/
def sameEngine : Engine → Block → Block → Prop
  | .xs32, a, b => a.xs32 = b.xs32
  | .xs64, a, b => a.xs64 = b.xs64
  | .xs128, a, b => a.xs128 = b.xs128
  | .xs64s, a, b => a.xs64s = b.xs64s
  | .xs1024s, a, b => a.xs1024s = b.xs1024s
  | .pcg32LcgXshrr, a, b => a.pcg32LcgXshrr = b.pcg32LcgXshrr
  | .pcg32LcgXshrs, a, b => a.pcg32LcgXshrs = b.pcg32LcgXshrs
  | .pcg32McgXshrr, a, b => a.pcg32McgXshrr = b.pcg32McgXshrr
  | .pcg32McgXshrs, a, b => a.pcg32McgXshrs = b.pcg32McgXshrs
  | .pcg64LcgXslrr, a, b => a.pcg64LcgXslrr = b.pcg64LcgXslrr
  | .pcg64McgXslrr, a, b => a.pcg64McgXslrr = b.pcg64McgXslrr
  | .mt64, a, b => a.mt64 = b.mt64

/-- Two blocks hold the same state of every engine but e. -/
def sameOthers (e : Engine) (a b : Block) : Prop := ∀ e', e' ≠ e → sameEngine e' a b

/-! ### What a command leaves (frames) -/

/-- What a fault with this status code leaves of `s` (60_exceptions.md R340, R344): the response `(code, [])`,
FIRST_CAUSE only where FAULTED was 0, FAULTED and LAST_CAUSE; every engine, the host's pending actions and the
draws as they were. -/
def Faulted (code : BitVec 4) (s t : State) : Prop :=
  t.responses = s.responses ++ [⟨code, []⟩] ∧
    t.faults = ⟨true, if s.faults.faulted then s.faults.firstCause else code, code⟩ ∧
    (∀ e, sameEngine e t.toBlock s.toBlock) ∧ t.pending = s.pending ∧ t.draws = s.draws

/-- What a command on engine `e` that completes with these result words leaves of `s`, but for engine `e` itself
and the draws: one OK response, every other engine, STATUS's stored fields and the host's pending actions as they
were (10_state.md R38, 60_exceptions.md R344). -/
def Completed (results : List U64) (e : Engine) (s t : State) : Prop :=
  t.responses = s.responses ++ [⟨0#4, results⟩] ∧ sameOthers e t.toBlock s.toBlock ∧ t.faults = s.faults ∧
    t.pending = s.pending

/-- A generation command on `e` can run in `s`: the engine is seeded (10_state.md R32), and for MT64 the assertion
of 42_mt64.md R206 holds, as it does in every state a run reaches (R33 (c)). -/
def Ready (e : Engine) (s : State) : Prop :=
  seeded s.toBlock e = true ∧ (e = .mt64 → s.mt64.idx.toNat ≤ 312)

/-! ### What the host can see of the engine registers (10_state.md R37) -/

/-- The block with the registers of every engine that is not seeded as after reset. R37 gives those registers no
value and asks that nothing read them: this is the block with them blotted out. -/
def view (b : Block) : Block where
  xs32 := if b.xs32.seeded then b.xs32 else Block.reset.xs32
  xs64 := if b.xs64.seeded then b.xs64 else Block.reset.xs64
  xs128 := if b.xs128.seeded then b.xs128 else Block.reset.xs128
  xs64s := if b.xs64s.seeded then b.xs64s else Block.reset.xs64s
  xs1024s := if b.xs1024s.seeded then b.xs1024s else Block.reset.xs1024s
  pcg32LcgXshrr := if b.pcg32LcgXshrr.seeded then b.pcg32LcgXshrr else Block.reset.pcg32LcgXshrr
  pcg32LcgXshrs := if b.pcg32LcgXshrs.seeded then b.pcg32LcgXshrs else Block.reset.pcg32LcgXshrs
  pcg32McgXshrr := if b.pcg32McgXshrr.seeded then b.pcg32McgXshrr else Block.reset.pcg32McgXshrr
  pcg32McgXshrs := if b.pcg32McgXshrs.seeded then b.pcg32McgXshrs else Block.reset.pcg32McgXshrs
  pcg64LcgXslrr := if b.pcg64LcgXslrr.seeded then b.pcg64LcgXslrr else Block.reset.pcg64LcgXslrr
  pcg64McgXslrr := if b.pcg64McgXslrr.seeded then b.pcg64McgXslrr else Block.reset.pcg64McgXslrr
  mt64 := if b.mt64.idx.toNat = params.mtSentinel then Block.reset.mt64 else b.mt64
  faults := b.faults

/-- The state with the block as its view. -/
def viewState (s : State) : State := { s with toBlock := view s.toBlock }

/-- An outcome with its next state, if it has one, mapped. -/
def mapNext (f : State → State) : Host.Outcome State Fault Refusal → Host.Outcome State Fault Refusal
  | .next s => .next (f s)
  | .fault r => .fault r
  | .refused r => .refused r

/-! ### Sequences of commands -/

/-- The commands one after another, stopping at the first that answers no next state. -/
def execAll : List Instr → State → Host.Outcome State Fault Refusal
  | [], s => .next s
  | i :: is, s =>
    match exec i s with
    | .next t => execAll is t
    | .fault r => .fault r
    | .refused r => .refused r

/-- A generation command with its repeat form replaced; any other command unchanged. -/
def withRepeat (rep : Repeat) : Instr → Instr
  | .seedXs32 a => .seedXs32 a
  | .seedXs64 a => .seedXs64 a
  | .seedXs128 a b => .seedXs128 a b
  | .seedXs64s a => .seedXs64s a
  | .seedPcg32LcgXshrr a => .seedPcg32LcgXshrr a
  | .seedPcg32LcgXshrs a => .seedPcg32LcgXshrs a
  | .seedPcg32McgXshrr a => .seedPcg32McgXshrr a
  | .seedPcg32McgXshrs a => .seedPcg32McgXshrs a
  | .seedPcg64LcgXslrr a b => .seedPcg64LcgXslrr a b
  | .seedPcg64McgXslrr a b => .seedPcg64McgXslrr a b
  | .seedMt64 a => .seedMt64 a
  | .seedaXs1024s a => .seedaXs1024s a
  | .seedaMt64 a => .seedaMt64 a
  | .genXs32 _ => .genXs32 rep
  | .genXs64 _ => .genXs64 rep
  | .genXs128 _ => .genXs128 rep
  | .genXs64s _ => .genXs64s rep
  | .genXs1024s _ => .genXs1024s rep
  | .genPcg32LcgXshrr _ => .genPcg32LcgXshrr rep
  | .genPcg32LcgXshrs _ => .genPcg32LcgXshrs rep
  | .genPcg32McgXshrr _ => .genPcg32McgXshrr rep
  | .genPcg32McgXshrs _ => .genPcg32McgXshrs rep
  | .genPcg64LcgXslrr _ => .genPcg64LcgXslrr rep
  | .genPcg64McgXslrr _ => .genPcg64McgXslrr rep
  | .genMt64 _ => .genMt64 rep
  | .genrXs32 _ => .genrXs32 rep
  | .genrXs64 _ => .genrXs64 rep
  | .genrXs128 _ => .genrXs128 rep
  | .genrXs64s _ => .genrXs64s rep
  | .genrXs1024s _ => .genrXs1024s rep
  | .genrPcg32LcgXshrr _ => .genrPcg32LcgXshrr rep
  | .genrPcg32LcgXshrs _ => .genrPcg32LcgXshrs rep
  | .genrPcg32McgXshrr _ => .genrPcg32McgXshrr rep
  | .genrPcg32McgXshrs _ => .genrPcg32McgXshrs rep
  | .genrPcg64LcgXslrr _ => .genrPcg64LcgXslrr rep
  | .genrPcg64McgXslrr _ => .genrPcg64McgXslrr rep
  | .genrMt64 _ => .genrMt64 rep
  | .genrcXs32 _ => .genrcXs32 rep
  | .genrcXs64 _ => .genrcXs64 rep
  | .genrcXs128 _ => .genrcXs128 rep
  | .genrcXs64s _ => .genrcXs64s rep
  | .genrcXs1024s _ => .genrcXs1024s rep
  | .genrcPcg32LcgXshrr _ => .genrcPcg32LcgXshrr rep
  | .genrcPcg32LcgXshrs _ => .genrcPcg32LcgXshrs rep
  | .genrcPcg32McgXshrr _ => .genrcPcg32McgXshrr rep
  | .genrcPcg32McgXshrs _ => .genrcPcg32McgXshrs rep
  | .genrcPcg64LcgXslrr _ => .genrcPcg64LcgXslrr rep
  | .genrcPcg64McgXslrr _ => .genrcPcg64McgXslrr rep
  | .genrcMt64 _ => .genrcMt64 rep
  | .genrrXs32 _ lo hi => .genrrXs32 rep lo hi
  | .genrrXs64 _ lo hi => .genrrXs64 rep lo hi
  | .genrrXs128 _ lo hi => .genrrXs128 rep lo hi
  | .genrrXs64s _ lo hi => .genrrXs64s rep lo hi
  | .genrrXs1024s _ lo hi => .genrrXs1024s rep lo hi
  | .genrrPcg32LcgXshrr _ lo hi => .genrrPcg32LcgXshrr rep lo hi
  | .genrrPcg32LcgXshrs _ lo hi => .genrrPcg32LcgXshrs rep lo hi
  | .genrrPcg32McgXshrr _ lo hi => .genrrPcg32McgXshrr rep lo hi
  | .genrrPcg32McgXshrs _ lo hi => .genrrPcg32McgXshrs rep lo hi
  | .genrrPcg64LcgXslrr _ lo hi => .genrrPcg64LcgXslrr rep lo hi
  | .genrrPcg64McgXslrr _ lo hi => .genrrPcg64McgXslrr rep lo hi
  | .genrrMt64 _ lo hi => .genrrMt64 rep lo hi
  | .status => .status

/-! ### Round to nearest, ties to even (00_scope.md R8), as a property -/

/-- The distance of two numbers. -/
def dist (a b : Nat) : Nat := (a - b) + (b - a)

/-- The non-negative finite binary64 whose magnitude bits are `b` is nearest to `m / 2^k` among all finite
binary64 magnitudes, and the one with an even last place where another is as near. Magnitudes are counted in
units of 2^-1074, so `m / 2^k` is `m * 2^1074 / 2^k` of them. -/
def NearestEven (m k : Nat) (b : Nat) : Prop :=
  b < f64InfBits ∧
    ∀ b', b' < f64InfBits →
      dist (f64Mag (f64Pack false b) * 2 ^ k) (m * 2 ^ 1074) ≤ dist (f64Mag (f64Pack false b') * 2 ^ k) (m * 2 ^ 1074) ∧
        (dist (f64Mag (f64Pack false b) * 2 ^ k) (m * 2 ^ 1074) = dist (f64Mag (f64Pack false b') * 2 ^ k) (m * 2 ^ 1074) →
          b' ≠ b → b % 2 = 0)

/-- The binary64 `r` is ± m / 2^k rounded, for k ≥ 1074: it has the sign, its magnitude is nearest to m / 2^k and
even in the last place on a tie, and it is the infinity of that sign exactly from the midpoint above the largest
finite value, (2^54 − 1) × 2^970, on (IEEE 754's threshold, PRESUMED, notes/assumptions/11.md). -/
def RoundedTo (neg : Bool) (m k : Nat) (r : U64) : Prop :=
  f64Sign r = neg ∧
    (m < (2 ^ 54 - 1) * 2 ^ 970 * 2 ^ k → NearestEven m k (r.toNat % 2 ^ 63)) ∧
    ((2 ^ 54 - 1) * 2 ^ 970 * 2 ^ k ≤ m → r = if neg then 0xFFF0000000000000#64 else 0x7FF0000000000000#64)

/-! ### Array seeding (42_mt64.md R202), as a property

An array of 312 words is written as the function of a position that answers its word. -/

/-- One step of a mixing pass at position i, from 1 to 311: word i is mixed with the word before it under the pass's
multiplier, and the offset added; at the wrap, where i is 311, the new word 311 is copied to position 0; every other
word stays. -/
def MixStep (i : Nat) (mult offset : U64) (old new : Nat → U64) : Prop :=
  let mixed := (old i ^^^ ((old (i - 1) ^^^ (old (i - 1) >>> 62)) * mult)) + offset
  new i = mixed ∧ new 0 = (if i = 311 then mixed else old 0) ∧ ∀ x, 1 ≤ x → x ≤ 311 → x ≠ i → new x = old x

/-- `a k` is the array after k steps of pass 1 over the key, and `b k` the array after k steps of pass 2
(42_mt64.md R202). The array starts as scalar seeding (R201) of 19650218 leaves it. Pass 1 has max(312, L) steps and
adds key[j] and j; pass 2 has 311 and subtracts i. Position i starts at 1, returns from 311 to 1, and runs on from
pass 1 into pass 2, so it is 1 + n mod 311 at step n of the two passes together; j is n mod L. -/
def MixesKey (key : List U64) (a b : Nat → Nat → U64) : Prop :=
  let steps := max 312 key.length
  a 0 0 = 19650218#64 ∧
    (∀ x, 1 ≤ x → x ≤ 311 → a 0 x =
      (6364136223846793005#64 * (a 0 (x - 1) ^^^ (a 0 (x - 1) >>> 30)) + BitVec.ofNat 64 x) &&&
        0x5555555555555555#64) ∧
    (∀ n, n < steps → MixStep (1 + n % 311) 3935559000370003845#64
      (key.getD (n % key.length) 0#64 + BitVec.ofNat 64 (n % key.length)) (a n) (a (n + 1))) ∧
    (∀ x, x ≤ 311 → b 0 x = a steps x) ∧
    ∀ n, n < 311 → MixStep (1 + (steps + n) % 311) 2862933555777941757#64
      (-BitVec.ofNat 64 (1 + (steps + n) % 311)) (b n) (b (n + 1))

/-! ### Reals of raw outputs (43_real.md R251 to R256), as properties -/

/-- The 53-bit number of the top 64 bits of a raw output (43_real.md R253): the top 27 bits of the high half and
the top 26 bits of the low half. -/
def splitOf (top : Nat) : Nat := top / 2 ^ 37 * 2 ^ 26 + top % 2 ^ 32 / 2 ^ 6

/-- The word `r` is a finite binary64 that is not negative. -/
def FiniteNonneg (r : U64) : Prop := f64Sign r = false ∧ f64Exp r < 2047

/-- `r` is RealOpen of a raw output whose first result word is `raw`: exactly raw / 2^32 at w = 32 (R251), and
the split over 2^53 at w = 64 and 128 (R253, R254). -/
def OpenOf (w : Nat) (raw : U64) (r : U64) : Prop :=
  FiniteNonneg r ∧
    if w = 32 then f64Mag r * 2 ^ 32 = raw.toNat * 2 ^ 1074 else f64Mag r * 2 ^ 53 = splitOf raw.toNat * 2 ^ 1074

/-- `r` is RealClosed of a raw output whose first result word is `raw`: the nearest binary64 to
raw × 2^-32 (1 + 2^-32) at w = 32 (R252), and to the split × 2^-53 (1 + 2^-52) at w = 64 and 128 (R255). -/
def ClosedOf (w : Nat) (raw : U64) (r : U64) : Prop :=
  if w = 32 then NearestEven (raw.toNat * (2 ^ 32 + 1)) 64 r.toNat
  else NearestEven (splitOf raw.toNat * (2 ^ 52 + 1)) 105 r.toNat

/-- A quiet NaN: exponent all ones and the top fraction bit set (43_real.md R257). -/
def QuietNaN (r : U64) : Prop := f64Exp r = 2047 ∧ r.getLsbD 51 = true

end Sys2Proof.Safety
end

