-- ==== Sys2Proof/Certificates/Slice0/Obligations.lean ====
section
/-! DEFINITION. The statements about the block, each from the numbered rules its docstring names. The codes 1 to 7
are those of 60_exceptions.md R341; the constants are PROFILE_SRC's (00_scope.md R4), which the block is built
with (notes/assumptions/6.md). -/

open Sys2Proof Sys2Proof.Machine Sys2Proof.Safety

/-! ### Encoding -/

/-- The decoder reads back every well-formed command from its encoding, all 62 constructors, every operand
(30_encoding.md R66 to R72, R75). -/
def Obligations.DecodeOfEncodeIsTheCommand : Prop :=
  ∀ i : Instr, i.wellFormed = true → decode (encode i).1 (encode i).2 = .instr i

/-- Each transaction the decoder accepts is the encoding of the command it answers, which is well formed: every
command has one command word and one list of operand words. -/
def Obligations.EncodeOfDecodeIsTheTransaction : Prop :=
  ∀ (w : U32) (ops : List U64) (i : Instr), decode w ops = .instr i → i.wellFormed = true ∧ encode i = (w, ops)

/-- R80: the worked encodings decode to the commands they stand for. -/
def Obligations.WorkedEncodingsDecode : Prop :=
  decode 0x00000003#32 [] = .instr (.genXs32 .single) ∧
  decode 0x00000001#32 [1#64] = .instr (.seedXs32 1#64) ∧
  decode 0x00000021#32 [0x0123456789ABCDEF#64, 0x0011223344556677#64] =
    .instr (.seedXs128 0x0123456789ABCDEF#64 0x0011223344556677#64) ∧
  decode 0x000400B2#32 [0x123#64, 0x234#64, 0x345#64, 0x456#64] =
    .instr (.seedaMt64 [0x123#64, 0x234#64, 0x345#64, 0x456#64]) ∧
  decode 0x013980B3#32 [] = .instr (.genMt64 (.bulk 313#16)) ∧
  decode 0x00000054#32 [] = .instr (.genrPcg32LcgXshrr .single) ∧
  decode 0x00028015#32 [] = .instr (.genrcXs64 (.bulk 2#16)) ∧
  decode 0x00000096#32 [0xC08F400000000000#64, 0x408F400000000000#64] =
    .instr (.genrrPcg64LcgXslrr .single 0xC08F400000000000#64 0x408F400000000000#64) ∧
  decode 0x00000007#32 [] = .instr .status

/-- R76 and R71, in the order of R342: what the sequencer does with any command word and any operand words, by
the word's fields as numbers. A word that fails one of checks 1 to 4 faults whatever its operand words; one that
passes them is refused unless it has exactly the operand words R71 fixes, and is a command if it has. The refusal is
R342's check 5 and R399's, as the model reads them (notes/assumptions/8.md, DEDUCED). -/
def Obligations.EncodingChecksInOrder : Prop :=
  ∀ (s : State) (w : U32) (ops : List U64) (rest : List HostAction), s.pending = .command w ops :: rest →
    let op := w.toNat % 16
    let eng := w.toNat / 16 % 16
    let rsvd := w.toNat / 256 % 128
    let bulk := w.toNat / 32768 % 2
    let cnt := w.toNat / 65536
    let n := if op = 1 then (if eng = 2 ∨ eng = 9 ∨ eng = 10 then 2 else 1)
      else if op = 2 then cnt else if op = 6 then 2 else 0
    if op = 0 ∨ 8 ≤ op then ∃ t, step s = .next t ∧ Faulted 1#4 (s.setPending rest) t
    else if 12 ≤ eng ∨ (op = 7 ∧ eng ≠ 0) then ∃ t, step s = .next t ∧ Faulted 2#4 (s.setPending rest) t
    else if rsvd ≠ 0 ∨ (bulk = 1 ∧ (op = 1 ∨ op = 2 ∨ op = 7)) ∨ (cnt ≠ 0 ∧ bulk = 0 ∧ op ≠ 2) then
      ∃ t, step s = .next t ∧ Faulted 3#4 (s.setPending rest) t
    else if (op = 1 ∧ eng = 4) ∨ (op = 2 ∧ eng ≠ 4 ∧ eng ≠ 11) then
      ∃ t, step s = .next t ∧ Faulted 4#4 (s.setPending rest) t
    else if ops.length ≠ n then step s = .refused .operandCount
    else ∃ i, decode w ops = .instr i ∧ step s = exec i (s.setPending rest)

/-! ### The step -/

/-- A step runs the decoded command: when the host's next action is a transaction that decodes to `i`, the step is
`exec i` on the state with that action taken (30_encoding.md R65, 20_memory.md R54). -/
def Obligations.StepRunsTheDecodedCommand : Prop :=
  ∀ (s : State) (w : U32) (ops : List U64) (rest : List HostAction) (i : Instr),
    s.pending = .command w ops :: rest → decode w ops = .instr i → step s = exec i (s.setPending rest)

/-- What is delivered runs next: with the encoding of a well-formed command at the head of the host's actions the
step is `exec` of that command. -/
def Obligations.StepRunsTheEncodedCommand : Prop :=
  ∀ (s : State) (i : Instr) (rest : List HostAction), i.wellFormed = true →
    s.pending = .command (encode i).1 (encode i).2 :: rest → step s = exec i (s.setPending rest)

/-- R355: with no action of the host pending the block is idle and holds its state. -/
def Obligations.StepIdlesAndHoldsItsState : Prop :=
  ∀ s : State, s.pending = [] → step s = .next s

/-- The reset event takes the block to one state, whatever it was before, with no response: no engine is seeded,
`idx` is 313 and STATUS reads 0 (R381). What the engine registers hold is the model's own choice
(notes/assumptions/1.md) and is not stated. -/
def Obligations.ResetEventClearsTheBlock : Prop :=
  ∀ (s : State) (rest : List HostAction), s.pending = .reset :: rest →
    ∃ t, step s = .next t ∧ (∀ e, seeded t.toBlock e = false) ∧ t.mt64.idx = 313#9 ∧ statusWord t.toBlock = 0#64 ∧
      t.responses = s.responses ∧ t.pending = rest ∧
      ∀ s', s'.pending = .reset :: rest → ∀ t', step s' = .next t' → t'.toBlock = t.toBlock

/-- Every step that answers a next state idles, takes a reset without a response, or takes one command and returns
exactly one response, a status of R341, with no result words unless it is OK (30_encoding.md R65, R74). That idling is
a step is the model's reading of R355 (notes/assumptions/3.md, DEDUCED); reset's silence is R381's, and that it keeps
the responses already returned is the model's (notes/assumptions/4.md, DESIGN CHOICE). -/
def Obligations.OneResponsePerCommand : Prop :=
  ∀ s t : State, step s = .next t →
    (s.pending = [] ∧ t = s) ∨
    (∃ rest, s.pending = .reset :: rest ∧ t.pending = rest ∧ t.responses = s.responses) ∨
    (∃ w ops rest r, s.pending = .command w ops :: rest ∧ t.pending = rest ∧ t.responses = s.responses ++ [r] ∧
      r.status.toNat ≤ 7 ∧ (r.status ≠ 0#4 → r.results = []))

/-! ### Reset and the invariant -/

/-- After reset no engine is seeded, so every generation command, all 48, faults UNSEEDED (R381); STATUS reads 0
and `idx` is 313 (R37). -/
def Obligations.AfterResetGenerationFaults : Prop :=
  statusWord State.reset.toBlock = 0#64 ∧ State.reset.mt64.idx = 313#9 ∧
    ∀ (i : Instr) (e : Engine) (rep : Repeat), generation i = some (e, rep) →
      seeded State.reset.toBlock e = false ∧ ∃ t, exec i State.reset = .next t ∧ Faulted 7#4 State.reset t

/-- The invariant holds at reset. -/
def Obligations.InvariantHoldsAtReset : Prop := Inv State.reset

/-- Every step keeps the invariant of R33, R31 and R74: 312 words in the MT64 array, `idx` at most 313, STATUS and
the responses with the listed values only. -/
def Obligations.EveryStepKeepsTheInvariant : Prop :=
  ∀ s t : State, Inv s → step s = .next t → Inv t

/-! ### Faults and STATUS -/

/-- R344, over all transactions: one that completes changes none of FAULTED, FIRST_CAUSE and LAST_CAUSE, and one
that faults with code c changes nothing else, records c, and returns `(c, [])`. A decoded command faults with code 5,
6 or 7 only. -/
def Obligations.FaultsChangeOnlyStatus : Prop :=
  (∀ (s t : State) (w : U32) (ops : List U64) (rest : List HostAction), s.pending = .command w ops :: rest →
    step s = .next t →
    (∃ results, t.responses = s.responses ++ [⟨0#4, results⟩] ∧ t.faults = s.faults) ∨
    ∃ c : BitVec 4, 1 ≤ c.toNat ∧ c.toNat ≤ 7 ∧ Faulted c (s.setPending rest) t) ∧
  ∀ (i : Instr) (s t : State), exec i s = .next t →
    (∃ results, t.responses = s.responses ++ [⟨0#4, results⟩] ∧ t.faults = s.faults) ∨
    ∃ c : BitVec 4, 5 ≤ c.toNat ∧ c.toNat ≤ 7 ∧ Faulted c s t

/-- R31, R348: FAULTED is sticky and FIRST_CAUSE keeps the first cause; only reset changes either again. -/
def Obligations.FaultedAndFirstCauseAreSticky : Prop :=
  ∀ s t : State, step s = .next t → s.pending.head? ≠ some .reset → s.faults.faulted = true →
    t.faults.faulted = true ∧ t.faults.firstCause = s.faults.firstCause

/-- R387: FAULTED shows at the end whether any command faulted: until a reset, each step keeps the equivalence of
FAULTED with the presence of a response that is not OK. -/
def Obligations.FaultedShowsEveryFault : Prop :=
  ∀ s t : State, step s = .next t → s.pending.head? ≠ some .reset →
    (s.faults.faulted = true ↔ ∃ r ∈ s.responses, r.status ≠ 0#4) →
    (t.faults.faulted = true ↔ ∃ r ∈ t.responses, r.status ≠ 0#4)

/-- R32: a seeding command of engine e that completes sets SEEDED(e), nothing else sets it, and nothing clears it
except reset. -/
def Obligations.SeededFlagsFollowSeeding : Prop :=
  (∀ s t : State, step s = .next t → s.pending.head? ≠ some .reset →
    ∀ e, seeded s.toBlock e = true → seeded t.toBlock e = true) ∧
  (∀ (i : Instr) (s t : State), exec i s = .next t → ∀ e, seeded s.toBlock e = false → seeded t.toBlock e = true →
    seeding i = some e) ∧
  ∀ (i : Instr) (e : Engine) (s t : State), seeding i = some e → exec i s = .next t →
    (lastResponse t).map Response.status = some 0#4 → seeded t.toBlock e = true

/-- R330 and R31: STATUS completes, changes nothing, and its one result word holds FAULTED in bit 0, FIRST_CAUSE in
bits 7 to 4, LAST_CAUSE in bits 11 to 8, SEEDED(e) in bit 16 + e, and 0 in every other bit. -/
def Obligations.StatusReturnsItsFields : Prop :=
  ∀ s : State, ∃ u : U64,
    exec .status s = .next { s with responses := s.responses ++ [⟨0#4, [u]⟩] } ∧
    u.getLsbD 0 = s.faults.faulted ∧ u.extractLsb' 4 4 = s.faults.firstCause ∧
    u.extractLsb' 8 4 = s.faults.lastCause ∧
    (∀ e, u.getLsbD (16 + (engineCode e).toNat) = seeded s.toBlock e) ∧
    u.extractLsb' 1 3 = 0#3 ∧ u.extractLsb' 12 4 = 0#4 ∧ u.extractLsb' 28 36 = 0#36

/-- R342 check 7, for N = 0 too, and R32: each of the 48 generation commands on an engine that is not seeded faults
UNSEEDED, whatever its repeat form and operands. -/
def Obligations.UnseededGenerationFaults : Prop :=
  ∀ (i : Instr) (e : Engine) (rep : Repeat) (s : State), generation i = some (e, rep) →
    seeded s.toBlock e = false → ∃ t, exec i s = .next t ∧ Faulted 7#4 s t

/-! ### Seeding -/

/-- SEED.XS32, SEED.XS64, SEED.XS128 and SEED.XS64S store the seed verbatim (R102, R105, R109, R112): bits
op[0][31:0] for XS32, the four words high to low for XS128. They complete in every state. -/
def Obligations.SeedXorshiftStoresTheSeed : Prop :=
  ∀ (a b : U64) (s : State),
    (∃ t, exec (.seedXs32 a) s = .next t ∧ t.xs32 = ⟨a.setWidth 32, true⟩ ∧ Completed [] .xs32 s t ∧
      t.draws = s.draws) ∧
    (∃ t, exec (.seedXs64 a) s = .next t ∧ t.xs64 = ⟨a, true⟩ ∧ Completed [] .xs64 s t ∧ t.draws = s.draws) ∧
    (∃ t, exec (.seedXs128 a b) s = .next t ∧
      t.xs128 = ⟨a.extractLsb' 32 32, a.setWidth 32, b.extractLsb' 32 32, b.setWidth 32, true⟩ ∧
      Completed [] .xs128 s t ∧ t.draws = s.draws) ∧
    (∃ t, exec (.seedXs64s a) s = .next t ∧ t.xs64s = ⟨a, true⟩ ∧ Completed [] .xs64s s t ∧ t.draws = s.draws)

/-- The six PCG SEED commands store the seed verbatim (R156, R158, R160, R162, R164, R166), the high operand word
first for the 128-bit engines. They complete in every state. -/
def Obligations.SeedPcgStoresTheSeed : Prop :=
  ∀ (a b : U64) (s : State),
    (∃ t, exec (.seedPcg32LcgXshrr a) s = .next t ∧ t.pcg32LcgXshrr = ⟨a, true⟩ ∧
      Completed [] .pcg32LcgXshrr s t ∧ t.draws = s.draws) ∧
    (∃ t, exec (.seedPcg32LcgXshrs a) s = .next t ∧ t.pcg32LcgXshrs = ⟨a, true⟩ ∧
      Completed [] .pcg32LcgXshrs s t ∧ t.draws = s.draws) ∧
    (∃ t, exec (.seedPcg32McgXshrr a) s = .next t ∧ t.pcg32McgXshrr = ⟨a, true⟩ ∧
      Completed [] .pcg32McgXshrr s t ∧ t.draws = s.draws) ∧
    (∃ t, exec (.seedPcg32McgXshrs a) s = .next t ∧ t.pcg32McgXshrs = ⟨a, true⟩ ∧
      Completed [] .pcg32McgXshrs s t ∧ t.draws = s.draws) ∧
    (∃ t, exec (.seedPcg64LcgXslrr a b) s = .next t ∧ t.pcg64LcgXslrr.st.toNat = a.toNat * 2 ^ 64 + b.toNat ∧
      t.pcg64LcgXslrr.seeded = true ∧ Completed [] .pcg64LcgXslrr s t ∧ t.draws = s.draws) ∧
    (∃ t, exec (.seedPcg64McgXslrr a b) s = .next t ∧ t.pcg64McgXslrr.st.toNat = a.toNat * 2 ^ 64 + b.toNat ∧
      t.pcg64McgXslrr.seeded = true ∧ Completed [] .pcg64McgXslrr s t ∧ t.draws = s.draws)

/-- SEEDA.XS1024S (R115): a key of 16 words becomes the array, p = 0; a key of any other length faults
BAD_KEY_LENGTH. -/
def Obligations.SeedaXs1024sStoresTheKey : Prop :=
  ∀ (key : List U64) (s : State),
    (key.length = 16 → ∃ t, exec (.seedaXs1024s key) s = .next t ∧ t.xs1024s.s.toList = key ∧ t.xs1024s.p = 0#4 ∧
      t.xs1024s.seeded = true ∧ Completed [] .xs1024s s t ∧ t.draws = s.draws) ∧
    (key.length ≠ 16 → key.length ≤ 65535 → ∃ t, exec (.seedaXs1024s key) s = .next t ∧ Faulted 6#4 s t)

/-- SEED.MT64 (R203, R201): 312 words, word 0 the seed, each later word from the stored one before it, masked
after the addition; `idx` = 312. -/
def Obligations.SeedMt64FollowsTheRecurrence : Prop :=
  ∀ (a : U64) (s : State), ∃ t, exec (.seedMt64 a) s = .next t ∧ t.mt64.mt.length = 312 ∧
    t.mt64.mt.getD 0 0#64 = a ∧
    (∀ i, 1 ≤ i → i ≤ 311 → t.mt64.mt.getD i 0#64 =
      (6364136223846793005#64 * (t.mt64.mt.getD (i - 1) 0#64 ^^^ (t.mt64.mt.getD (i - 1) 0#64 >>> 30)) +
        BitVec.ofNat 64 i) &&& 0x5555555555555555#64) ∧
    t.mt64.idx = 312#9 ∧ Completed [] .mt64 s t ∧ t.draws = s.draws

/-- SEEDA.MT64 (R207, R202): an empty key faults EMPTY_KEY; a key of 1 to 65535 words leaves 312 words: word 0 is
2^63, and words 1 to 311 are those the two mixing passes over the key end in (`MixesKey` fixes every word of every
step); `idx` = 312. -/
def Obligations.SeedaMt64Completes : Prop :=
  ∀ (key : List U64) (s : State),
    (key = [] → ∃ t, exec (.seedaMt64 key) s = .next t ∧ Faulted 5#4 s t) ∧
    (key ≠ [] → key.length ≤ 65535 → ∃ t a b, exec (.seedaMt64 key) s = .next t ∧ MixesKey key a b ∧
      t.mt64.mt.length = 312 ∧ t.mt64.mt.getD 0 0#64 = 0x8000000000000000#64 ∧
      (∀ x, 1 ≤ x → x ≤ 311 → t.mt64.mt.getD x 0#64 = b 311 x) ∧ t.mt64.idx = 312#9 ∧ Completed [] .mt64 s t ∧
      t.draws = s.draws)

/-- A key no command word can express is refused, not faulted (R210, R399). -/
def Obligations.OverlongKeysAreRefused : Prop :=
  ∀ (key : List U64) (s : State), 65535 < key.length →
    exec (.seedaMt64 key) s = .refused .keyTooLong ∧ exec (.seedaXs1024s key) s = .refused .keyTooLong

/-- R383, R51: what a seeding command that completes leaves of its engine does not depend on the state before it,
seeded or not; of STATUS it changes nothing but that SEEDED(e) is 1; and seeding again with the same operands changes
nothing in the block. -/
def Obligations.SeedingForgetsTheEngine : Prop :=
  ∀ (i : Instr) (e : Engine) (s s' t t' : State), seeding i = some e → exec i s = .next t → exec i s' = .next t' →
    lastResponse t = some ⟨0#4, []⟩ →
    sameEngine e t.toBlock t'.toBlock ∧ sameOthers e t.toBlock s.toBlock ∧ t.faults = s.faults ∧
      seeded t.toBlock e = true ∧ ∃ u, exec i t = .next u ∧ u.toBlock = t.toBlock

/-! ### GEN: one raw output -/

/-- GEN.XS32, GEN.XS64 and GEN.XS64S, one repetition (R103 with R101, R106 with R104, R113 with R111): the new
state, and the result: the new state, or for XS64S the new state times the multiplier. -/
def Obligations.GenXorshiftOneWord : Prop :=
  ∀ s : State,
    (s.xs32.seeded = true →
      let a := s.xs32.x ^^^ (s.xs32.x <<< 13)
      let b := a ^^^ (a >>> 17)
      let x := b ^^^ (b <<< 5)
      ∃ t, exec (.genXs32 .single) s = .next t ∧ t.xs32 = ⟨x, true⟩ ∧ Completed [x.setWidth 64] .xs32 s t ∧
        t.draws = s.draws) ∧
    (s.xs64.seeded = true →
      let a := s.xs64.x ^^^ (s.xs64.x <<< 13)
      let b := a ^^^ (a >>> 7)
      let x := b ^^^ (b <<< 17)
      ∃ t, exec (.genXs64 .single) s = .next t ∧ t.xs64 = ⟨x, true⟩ ∧ Completed [x] .xs64 s t ∧ t.draws = s.draws) ∧
    (s.xs64s.seeded = true →
      let a := s.xs64s.x ^^^ (s.xs64s.x >>> 12)
      let b := a ^^^ (a <<< 25)
      let x := b ^^^ (b >>> 27)
      ∃ t, exec (.genXs64s .single) s = .next t ∧ t.xs64s = ⟨x, true⟩ ∧
        Completed [x * 0x2545F4914F6CDD1D#64] .xs64s s t ∧ t.draws = s.draws)

/-- GEN.XS128, one repetition (R110 with R108 and R107): the ring rotates, and the result is the whole new state in
two words, s[0] ‖ s[1] then s[2] ‖ s[3]. -/
def Obligations.GenXs128TwoWords : Prop :=
  ∀ s : State, s.xs128.seeded = true →
    let v := s.xs128.s0 ^^^ (s.xs128.s0 <<< 11)
    let w := s.xs128.s3
    let n := (w ^^^ (w >>> 19)) ^^^ (v ^^^ (v >>> 8))
    ∃ t, exec (.genXs128 .single) s = .next t ∧ t.xs128 = ⟨s.xs128.s1, s.xs128.s2, w, n, true⟩ ∧
      Completed [s.xs128.s1 ++ s.xs128.s2, w ++ n] .xs128 s t ∧ t.draws = s.draws

/-- GEN.XS1024S, one repetition (R116 with R114): the cursor advances by 1 modulo 16, exactly the word at the new
cursor is written, and the result is that word times the multiplier. -/
def Obligations.GenXs1024sOneWord : Prop :=
  ∀ s : State, s.xs1024s.seeded = true →
    ∃ t v, exec (.genXs1024s .single) s = .next t ∧
      t.xs1024s.p.toNat = (s.xs1024s.p.toNat + 1) % 16 ∧ t.xs1024s.seeded = true ∧
      (∀ j : Nat, j < 16 → t.xs1024s.s[j]? = if j = t.xs1024s.p.toNat then some v else s.xs1024s.s[j]?) ∧
      (∀ s0 old : U64, s.xs1024s.s[s.xs1024s.p.toNat]? = some s0 → s.xs1024s.s[t.xs1024s.p.toNat]? = some old →
        let s1 := old ^^^ (old <<< 31)
        v = s1 ^^^ s0 ^^^ (s1 >>> 11) ^^^ (s0 >>> 30)) ∧
      Completed [v * 0x106689D45497FDB5#64] .xs1024s s t ∧ t.draws = s.draws

/-- GEN on the four 64-bit-state PCG engines, one repetition (R157, R159, R161, R163 with R150, R152, R153, R155):
the output is the permutation of the state before the advance. -/
def Obligations.GenPcg32OneWord : Prop :=
  ∀ s : State,
    let rr : U64 → U32 := fun st =>
      BitVec.rotateRight (((st ^^^ (st >>> 18)) >>> 27).setWidth 32) (st.toNat / 2 ^ 59)
    let rs : U64 → U32 := fun st => (((st >>> 22) ^^^ st) >>> (22 + st.toNat / 2 ^ 61)).setWidth 32
    (s.pcg32LcgXshrr.seeded = true → ∃ t, exec (.genPcg32LcgXshrr .single) s = .next t ∧
      t.pcg32LcgXshrr = ⟨s.pcg32LcgXshrr.st * 6364136223846793005#64 + 1442695040888963407#64, true⟩ ∧
      Completed [(rr s.pcg32LcgXshrr.st).setWidth 64] .pcg32LcgXshrr s t ∧ t.draws = s.draws) ∧
    (s.pcg32LcgXshrs.seeded = true → ∃ t, exec (.genPcg32LcgXshrs .single) s = .next t ∧
      t.pcg32LcgXshrs = ⟨s.pcg32LcgXshrs.st * 6364136223846793005#64 + 1442695040888963407#64, true⟩ ∧
      Completed [(rs s.pcg32LcgXshrs.st).setWidth 64] .pcg32LcgXshrs s t ∧ t.draws = s.draws) ∧
    (s.pcg32McgXshrr.seeded = true → ∃ t, exec (.genPcg32McgXshrr .single) s = .next t ∧
      t.pcg32McgXshrr = ⟨s.pcg32McgXshrr.st * 6364136223846793005#64, true⟩ ∧
      Completed [(rr s.pcg32McgXshrr.st).setWidth 64] .pcg32McgXshrr s t ∧ t.draws = s.draws) ∧
    (s.pcg32McgXshrs.seeded = true → ∃ t, exec (.genPcg32McgXshrs .single) s = .next t ∧
      t.pcg32McgXshrs = ⟨s.pcg32McgXshrs.st * 6364136223846793005#64, true⟩ ∧
      Completed [(rs s.pcg32McgXshrs.st).setWidth 64] .pcg32McgXshrs s t ∧ t.draws = s.draws)

/-- GEN on the two 128-bit-state PCG engines, one repetition (R165, R167 with R151, R154, R155). -/
def Obligations.GenPcg64OneWord : Prop :=
  ∀ s : State,
    let rr : U128 → U64 := fun st =>
      BitVec.rotateRight (st.extractLsb' 64 64 ^^^ st.setWidth 64) (st.toNat / 2 ^ 122)
    (s.pcg64LcgXslrr.seeded = true → ∃ t, exec (.genPcg64LcgXslrr .single) s = .next t ∧
      t.pcg64LcgXslrr = ⟨s.pcg64LcgXslrr.st * 0x2360ED051FC65DA44385DF649FCCF645#128 +
        0x5851F42D4C957F2D14057B7EF767814F#128, true⟩ ∧
      Completed [rr s.pcg64LcgXslrr.st] .pcg64LcgXslrr s t ∧ t.draws = s.draws) ∧
    (s.pcg64McgXslrr.seeded = true → ∃ t, exec (.genPcg64McgXslrr .single) s = .next t ∧
      t.pcg64McgXslrr = ⟨s.pcg64McgXslrr.st * 0x2360ED051FC65DA44385DF649FCCF645#128, true⟩ ∧
      Completed [rr s.pcg64McgXslrr.st] .pcg64McgXslrr s t ∧ t.draws = s.draws)

/-- GEN.MT64, one repetition (R208 with R206, R205): below 312 the tempered word at the cursor, the array
unchanged; at 312 the array is first regenerated, once, and word 0 of the new one is returned. -/
def Obligations.GenMt64OneWord : Prop :=
  ∀ s : State,
    let temper : U64 → U64 := fun y =>
      let y1 := y ^^^ ((y >>> 29) &&& 0x5555555555555555#64)
      let y2 := y1 ^^^ ((y1 <<< 17) &&& 0x71D67FFFEDA60000#64)
      y2 ^^^ ((y2 <<< 37) &&& 0xFFF7EEE000000000#64)
    (s.mt64.idx.toNat ≤ 311 → ∃ t, exec (.genMt64 .single) s = .next t ∧ t.mt64.mt = s.mt64.mt ∧
      t.mt64.idx.toNat = s.mt64.idx.toNat + 1 ∧
      Completed [temper (s.mt64.mt.getD s.mt64.idx.toNat 0#64)] .mt64 s t ∧ t.draws = s.draws) ∧
    (s.mt64.idx.toNat = 312 → ∃ t, exec (.genMt64 .single) s = .next t ∧ t.mt64.mt = mtTwist params s.mt64.mt ∧
      t.mt64.idx = 1#9 ∧ Completed [temper ((mtTwist params s.mt64.mt).getD 0 0#64)] .mt64 s t ∧ t.draws = s.draws)

/-- The twist (R204), position by position: each new word from the old word there, the old successor (for position
311 the new word 0), and the word 156 ahead, which from position 156 on is a new one. -/
def Obligations.TwistRegeneratesEveryWord : Prop :=
  ∀ mt : List U64, mt.length = 312 →
    let new := mtTwist params mt
    new.length = 312 ∧ ∀ i, i < 312 →
      let next := if i = 311 then new.getD 0 0#64 else mt.getD (i + 1) 0#64
      let ahead := if i < 156 then mt.getD (i + 156) 0#64 else new.getD (i - 156) 0#64
      let y := (mt.getD i 0#64 &&& 0x8000000000000000#64) ||| (next &&& 0x7FFFFFFF#64)
      new.getD i 0#64 = ahead ^^^ (y >>> 1) ^^^ (if y.getLsbD 0 then 0xB5026F5AA96619E9#64 else 0#64)

/-! ### Generation: every repeat form -/

/-- Each of the 48 generation commands completes, in every repeat form, wherever its engine is seeded (R343, R74):
OK, N result words for a real and N times the words of a raw output for GEN, and nothing changes but the engine and,
for GENRR, the draws. -/
def Obligations.GenerationCompletes : Prop :=
  ∀ (e : Engine) (rep : Repeat) (lo hi : U64) (s : State), Ready e s →
    (∃ t ws, exec (buildGen rep e) s = .next t ∧ Completed ws e s t ∧ t.draws = s.draws ∧
      ws.length = rawWords e * repeatCount rep ∧ seeded t.toBlock e = true) ∧
    (∃ t ws, exec (buildGenr rep e) s = .next t ∧ Completed ws e s t ∧ t.draws = s.draws ∧
      ws.length = repeatCount rep ∧ seeded t.toBlock e = true) ∧
    (∃ t ws, exec (buildGenrc rep e) s = .next t ∧ Completed ws e s t ∧ t.draws = s.draws ∧
      ws.length = repeatCount rep ∧ seeded t.toBlock e = true) ∧
    (∃ t ws, exec (buildGenrr rep lo hi e) s = .next t ∧ Completed ws e s t ∧
      ws.length = repeatCount rep ∧ seeded t.toBlock e = true)

/-- R69: a bulk command with N = 0 on a seeded engine returns OK with no result words and changes no engine. -/
def Obligations.ZeroRepetitionsChangeNothing : Prop :=
  ∀ (i : Instr) (e : Engine) (s : State), generation i = some (e, .bulk 0#16) → Ready e s →
    exec i s = .next { s with responses := s.responses ++ [⟨0#4, []⟩] }

/-- R55: a bulk command with count N has exactly the effect and the results, in call order, of N successive single
commands with the same operands, for each of the 48. R257 leaves NaN bits free, so that NaN words and the draws come
out equal too rests on the model's draw counter (notes/assumptions/5.md, DESIGN CHOICE), not on R55. -/
def Obligations.BulkEqualsSingles : Prop :=
  ∀ (i : Instr) (e : Engine) (n : BitVec 16) (s : State), generation i = some (e, .bulk n) → Ready e s →
    ∃ t u rs, exec i s = .next t ∧ execAll (List.replicate n.toNat (withRepeat .single i)) s = .next u ∧
      u.toBlock = t.toBlock ∧ u.draws = t.draws ∧ u.pending = t.pending ∧ rs.length = n.toNat ∧
      (∀ r ∈ rs, r.status = 0#4) ∧ u.responses = s.responses ++ rs ∧
      t.responses = s.responses ++ [⟨0#4, rs.flatMap Response.results⟩]

/-- R60, R38, R54: a command on engine e leaves every other engine, and what it leaves of engine e and what it
answers depend on engine e alone (and, for NaN bits only, on the draws). -/
def Obligations.EnginesAreIndependent : Prop :=
  ∀ (i : Instr) (e : Engine) (s s' t : State), (seeding i = some e ∨ ∃ rep, generation i = some (e, rep)) →
    sameEngine e s.toBlock s'.toBlock → s.draws = s'.draws → exec i s = .next t →
    sameOthers e t.toBlock s.toBlock ∧
      ∃ t' r, exec i s' = .next t' ∧ sameEngine e t.toBlock t'.toBlock ∧ t.responses = s.responses ++ [r] ∧
        t'.responses = s'.responses ++ [r] ∧ t.draws = t'.draws

/-- R60: commands on different engines commute in their effect on engine state. -/
def Obligations.CommandsOnDifferentEnginesCommute : Prop :=
  ∀ (i j : Instr) (e f : Engine) (s t u : State), e ≠ f →
    (seeding i = some e ∨ ∃ rep, generation i = some (e, rep)) →
    (seeding j = some f ∨ ∃ rep, generation j = some (f, rep)) →
    execAll [i, j] s = .next t → execAll [j, i] s = .next u → ∀ g, sameEngine g t.toBlock u.toBlock

/-- R37, R381: no step reads a register of an engine that is not seeded: a step commutes with blotting those
registers out, in its outcome, its response and every later state. So the zeros the model puts there
(notes/assumptions/1.md) are seen by no command. -/
def Obligations.UnseededRegistersAreUnobservable : Prop :=
  ∀ s : State, mapNext viewState (step (viewState s)) = mapNext viewState (step s)

/-! ### Properties of the families -/

/-- R117: each xorshift engine whose whole state is zero stays so, in every repeat form, and every raw output
is 0. -/
def Obligations.ZeroStateIsAFixedPoint : Prop :=
  ∀ (s : State) (rep : Repeat),
    (s.xs32 = ⟨0, true⟩ → ∃ t, exec (.genXs32 rep) s = .next t ∧ t.toBlock = s.toBlock ∧
      t.responses = s.responses ++ [⟨0#4, List.replicate (repeatCount rep) 0#64⟩]) ∧
    (s.xs64 = ⟨0, true⟩ → ∃ t, exec (.genXs64 rep) s = .next t ∧ t.toBlock = s.toBlock ∧
      t.responses = s.responses ++ [⟨0#4, List.replicate (repeatCount rep) 0#64⟩]) ∧
    (s.xs128 = ⟨0, 0, 0, 0, true⟩ → ∃ t, exec (.genXs128 rep) s = .next t ∧ t.toBlock = s.toBlock ∧
      t.responses = s.responses ++ [⟨0#4, List.replicate (2 * repeatCount rep) 0#64⟩]) ∧
    (s.xs64s = ⟨0, true⟩ → ∃ t, exec (.genXs64s rep) s = .next t ∧ t.toBlock = s.toBlock ∧
      t.responses = s.responses ++ [⟨0#4, List.replicate (repeatCount rep) 0#64⟩]) ∧
    (s.xs1024s.s = Vector.replicate 16 0#64 → s.xs1024s.seeded = true →
      ∃ t, exec (.genXs1024s rep) s = .next t ∧ t.xs1024s.s = s.xs1024s.s ∧
        t.responses = s.responses ++ [⟨0#4, List.replicate (repeatCount rep) 0#64⟩])

/-- R118: every call advances the ring cursor of XS1024S by 1 modulo 16, so after exactly 16 calls it is back. -/
def Obligations.RingCursorWraps : Prop :=
  ∀ (s : State) (n : BitVec 16), s.xs1024s.seeded = true →
    ∃ t, exec (.genXs1024s (.bulk n)) s = .next t ∧
      t.xs1024s.p.toNat = (s.xs1024s.p.toNat + n.toNat) % 16 ∧ (n = 16#16 → t.xs1024s.p = s.xs1024s.p)

/-- R168: on an MCG engine the number of trailing zero bits of the state never changes: for every k, 2^k divides the
state after any number of generations exactly where it divides the state before; and the state 0 stays 0 with every
output 0. -/
def Obligations.McgKeepsTrailingZeros : Prop :=
  (∀ (s t : State) (rep : Repeat) (k : Nat),
    (k ≤ 64 → s.pcg32McgXshrr.seeded = true → exec (.genPcg32McgXshrr rep) s = .next t →
      (2 ^ k ∣ t.pcg32McgXshrr.st.toNat ↔ 2 ^ k ∣ s.pcg32McgXshrr.st.toNat)) ∧
    (k ≤ 64 → s.pcg32McgXshrs.seeded = true → exec (.genPcg32McgXshrs rep) s = .next t →
      (2 ^ k ∣ t.pcg32McgXshrs.st.toNat ↔ 2 ^ k ∣ s.pcg32McgXshrs.st.toNat)) ∧
    (k ≤ 128 → s.pcg64McgXslrr.seeded = true → exec (.genPcg64McgXslrr rep) s = .next t →
      (2 ^ k ∣ t.pcg64McgXslrr.st.toNat ↔ 2 ^ k ∣ s.pcg64McgXslrr.st.toNat))) ∧
  ∀ (s : State) (rep : Repeat),
    (s.pcg32McgXshrr = ⟨0, true⟩ → ∃ t, exec (.genPcg32McgXshrr rep) s = .next t ∧ t.toBlock = s.toBlock ∧
      t.responses = s.responses ++ [⟨0#4, List.replicate (repeatCount rep) 0#64⟩]) ∧
    (s.pcg32McgXshrs = ⟨0, true⟩ → ∃ t, exec (.genPcg32McgXshrs rep) s = .next t ∧ t.toBlock = s.toBlock ∧
      t.responses = s.responses ++ [⟨0#4, List.replicate (repeatCount rep) 0#64⟩]) ∧
    (s.pcg64McgXslrr = ⟨0, true⟩ → ∃ t, exec (.genPcg64McgXslrr rep) s = .next t ∧ t.toBlock = s.toBlock ∧
      t.responses = s.responses ++ [⟨0#4, List.replicate (repeatCount rep) 0#64⟩])

/-- R209: from `idx` = 312, where every seeding leaves the cursor, exactly the generations numbered 312k + 1
regenerate, once: generation j + 1 returns the tempered word j modulo 312 of the array regenerated j / 312 + 1 times,
and N ≥ 1 generations leave the array so regenerated and the cursor one past the last word returned. -/
def Obligations.BatchBoundary : Prop :=
  ∀ (s : State) (n : BitVec 16), s.mt64.idx = 312#9 → 1 ≤ n.toNat →
    ∃ t ws, exec (.genMt64 (.bulk n)) s = .next t ∧ Completed ws .mt64 s t ∧ ws.length = n.toNat ∧
      (∀ j, j < n.toNat → ws.getD j 0#64 =
        mtTemper params ((times (mtTwist params) (j / 312 + 1) s.mt64.mt).getD (j % 312) 0#64)) ∧
      t.mt64.mt = times (mtTwist params) ((n.toNat + 311) / 312) s.mt64.mt ∧
      t.mt64.idx.toNat = (n.toNat - 1) % 312 + 1

/-! ### Real conversion -/

/-- R8: `fl` rounds to nearest, ties to even: the magnitude bits the model gives m / 2^k are those of the nearest
binary64, unless they are infinity's. The encoding is IEEE 754's (notes/assumptions/11.md, PRESUMED). -/
def Obligations.RoundingIsNearestEven : Prop :=
  ∀ m k : Nat, 1074 ≤ k → roundMag m k < f64InfBits → NearestEven m k (roundMag m k)

/-- R8: `fl` overflows to infinity exactly from the midpoint above the largest finite binary64 on. -/
def Obligations.OverflowRoundsToInfinity : Prop :=
  ∀ m k : Nat, 1074 ≤ k → (roundMag m k = f64InfBits ↔ (2 ^ 54 - 1) * 2 ^ 970 * 2 ^ k ≤ m)

/-- R8: the sum of two finite binary64 values whose exact sum is not 0 is that sum correctly rounded, and the
infinity of its sign exactly where the exact sum reaches the overflow threshold; an exact zero sum is −0 only where
both are negative. The threshold and the signs of zero are the model's (notes/assumptions/11.md, PRESUMED). -/
def Obligations.AdditionOfFinitesIsRounded : Prop :=
  ∀ a b : U64, f64Exp a < 2047 → f64Exp b < 2047 →
    ∃ r, f64Add a b = some r ∧
      (f64Int a + f64Int b ≠ 0 →
        RoundedTo (decide (f64Int a + f64Int b < 0)) (f64Int a + f64Int b).natAbs 1074 r) ∧
      (f64Int a + f64Int b = 0 → r = if f64Sign a && f64Sign b then 0x8000000000000000#64 else 0#64)

/-- R8: the product of two finite binary64 values has the exclusive-or of their signs, is their exact product
correctly rounded, and is the infinity of that sign exactly where the exact product reaches the overflow threshold.
The threshold and the sign rule, that of a zero product too, are the model's (notes/assumptions/11.md, PRESUMED). -/
def Obligations.ProductOfFinitesIsRounded : Prop :=
  ∀ a b : U64, f64Exp a < 2047 → f64Exp b < 2047 →
    ∃ r, f64Mul a b = some r ∧ RoundedTo (f64Sign a != f64Sign b) (f64Mag a * f64Mag b) 2148 r

/-- GENR of every engine (R260 to R271 with R250 to R256), every repeat form: it leaves the block as GEN of the same
N does, and its k-th word is exactly the open real of GEN's k-th raw output. -/
def Obligations.GenrReturnsOpenReals : Prop :=
  ∀ (e : Engine) (rep : Repeat) (s : State), Ready e s →
    ∃ t u raws reals, exec (buildGen rep e) s = .next t ∧ exec (buildGenr rep e) s = .next u ∧
      t.toBlock = u.toBlock ∧ Completed raws e s t ∧ Completed reals e s u ∧ reals.length = repeatCount rep ∧
      raws.length = rawWords e * repeatCount rep ∧
      ∀ k, k < repeatCount rep → OpenOf (width e) (raws.getD (rawWords e * k) 0#64) (reals.getD k 0#64)

/-- GENRC of every engine (R272 to R283 with R250 to R256), every repeat form: it leaves the block as GEN of the
same N does, and its k-th word is the correctly rounded closed real of GEN's k-th raw output. -/
def Obligations.GenrcReturnsClosedReals : Prop :=
  ∀ (e : Engine) (rep : Repeat) (s : State), Ready e s →
    ∃ t u raws reals, exec (buildGen rep e) s = .next t ∧ exec (buildGenrc rep e) s = .next u ∧
      t.toBlock = u.toBlock ∧ Completed raws e s t ∧ Completed reals e s u ∧ reals.length = repeatCount rep ∧
      raws.length = rawWords e * repeatCount rep ∧
      ∀ k, k < repeatCount rep → ClosedOf (width e) (raws.getD (rawWords e * k) 0#64) (reals.getD k 0#64)

/-- GENRR of every engine (R284 to R295 with R257), every repeat form and every lo and hi: it leaves the block as
GENR of the same N does; its k-th word is lo + (hi − lo) × r in three rounded operations, r GENR's k-th word, and
some quiet NaN where one of them is a NaN. That quiet means fraction bit 51 is the model's (notes/assumptions/5.md,
PRESUMED). -/
def Obligations.GenrrReturnsTheAffineMap : Prop :=
  ∀ (e : Engine) (rep : Repeat) (lo hi : U64) (s : State), Ready e s →
    ∃ t u reals ranged, exec (buildGenr rep e) s = .next t ∧ exec (buildGenrr rep lo hi e) s = .next u ∧
      t.toBlock = u.toBlock ∧ Completed reals e s t ∧ Completed ranged e s u ∧ ranged.length = repeatCount rep ∧
      ∀ k, k < repeatCount rep →
        match (f64Sub hi lo).bind fun d => (f64Mul d (reals.getD k 0#64)).bind fun p => f64Add lo p with
        | some v => ranged.getD k 0#64 = v
        | none => QuietNaN (ranged.getD k 0#64)

/-- R258 (a): RealOpen lies in [0, 1): for every raw value the word is a non-negative binary64 of at most 1 − 2^-32
at w = 32 and 1 − 2^-53 at w = 64 and 128. -/
def Obligations.OpenRealsAreBelowOne : Prop :=
  (∀ v : U32, ∃ r, realOpen params v = some r ∧ r.toNat ≤ 0x3FEFFFFFFFE00000) ∧
  (∀ v : U64, ∃ r, realOpen params v = some r ∧ r.toNat ≤ 0x3FEFFFFFFFFFFFFF) ∧
  (∀ v : U128, ∃ r, realOpen params v = some r ∧ r.toNat ≤ 0x3FEFFFFFFFFFFFFF)

/-- R258 (b): RealClosed lies in [0, 1] for every raw value, and both ends are reached. -/
def Obligations.ClosedRealsAreAtMostOne : Prop :=
  (∀ v : U32, ∃ r, realClosed params v = some r ∧ r.toNat ≤ 0x3FF0000000000000) ∧
  (∀ v : U64, ∃ r, realClosed params v = some r ∧ r.toNat ≤ 0x3FF0000000000000) ∧
  (∀ v : U128, ∃ r, realClosed params v = some r ∧ r.toNat ≤ 0x3FF0000000000000) ∧
  realClosed params (0 : U32) = some 0#64 ∧ realClosed params (BitVec.allOnes 32) = some 0x3FF0000000000000#64 ∧
  realClosed params (0 : U64) = some 0#64 ∧ realClosed params (BitVec.allOnes 64) = some 0x3FF0000000000000#64 ∧
  realClosed params (0 : U128) = some 0#64 ∧ realClosed params (BitVec.allOnes 128) = some 0x3FF0000000000000#64

/-- R258 (c): RealOpen and RealClosed are monotone in the raw value (for w = 128, in its top 64 bits). -/
def Obligations.RealsAreMonotone : Prop :=
  (∀ v v' : U32, v.toNat ≤ v'.toNat → ∀ r r' c c', realOpen params v = some r → realOpen params v' = some r' →
    realClosed params v = some c → realClosed params v' = some c' → r.toNat ≤ r'.toNat ∧ c.toNat ≤ c'.toNat) ∧
  (∀ v v' : U64, v.toNat ≤ v'.toNat → ∀ r r' c c', realOpen params v = some r → realOpen params v' = some r' →
    realClosed params v = some c → realClosed params v' = some c' → r.toNat ≤ r'.toNat ∧ c.toNat ≤ c'.toNat) ∧
  (∀ v v' : U128, v.toNat / 2 ^ 64 ≤ v'.toNat / 2 ^ 64 → ∀ r r' c c', realOpen params v = some r →
    realOpen params v' = some r' → realClosed params v = some c → realClosed params v' = some c' →
    r.toNat ≤ r'.toNat ∧ c.toNat ≤ c'.toNat)

/-- R258 (d), (f), (g): with finite bounds and r = 0 the range map gives lo wherever hi − lo does not overflow, but
+0 where lo is −0 and hi − lo is not negative; and lo = hi gives lo, or +0 for −0, for every finite r ≥ 0. -/
def Obligations.RangeMapAtTheLowerBound : Prop :=
  (∀ lo hi d : U64, f64Exp lo < 2047 → f64Exp hi < 2047 → f64Sub hi lo = some d → f64Exp d < 2047 →
    rangeMap lo hi (some 0#64) =
      some (if lo = 0x8000000000000000#64 ∧ f64Sign d = false then 0#64 else lo)) ∧
  (∀ lo r : U64, f64Exp lo < 2047 → FiniteNonneg r →
    rangeMap lo lo (some r) = some (if lo = 0x8000000000000000#64 then 0#64 else lo))

/-- R258 (d), (g): with finite bounds whose difference does not overflow, the rounded result of the range map never
leaves the closed interval between them, for every r from 0 to 1 − 2^-53, which is RealOpen's range. The spec leaves
this unproven: "a model must prove the bound before relying on it". -/
def Obligations.RangeMapStaysBetweenItsBounds : Prop :=
  ∀ lo hi r d : U64, f64Exp lo < 2047 → f64Exp hi < 2047 → f64Sub hi lo = some d → f64Exp d < 2047 →
    FiniteNonneg r → r.toNat ≤ 0x3FEFFFFFFFFFFFFF →
    ∃ v, rangeMap lo hi (some r) = some v ∧ f64Exp v < 2047 ∧
      min (f64Int lo) (f64Int hi) ≤ f64Int v ∧ f64Int v ≤ max (f64Int lo) (f64Int hi)

/-- R257, R258 (h): a NaN bound gives a NaN; a range that overflows to +∞ gives a NaN at r = 0 and +∞ at finite
r > 0 with a finite lo; and every NaN result word, whatever is drawn, is a quiet NaN. -/
def Obligations.RangeMapOutsideTheFinite : Prop :=
  (∀ lo hi r : U64, f64IsNaN lo = true ∨ f64IsNaN hi = true → rangeMap lo hi (some r) = none) ∧
  (∀ lo hi : U64, f64Sub hi lo = some 0x7FF0000000000000#64 → rangeMap lo hi (some 0#64) = none) ∧
  (∀ lo hi r : U64, f64Exp lo < 2047 → f64Sub hi lo = some 0x7FF0000000000000#64 → FiniteNonneg r → r ≠ 0#64 →
    rangeMap lo hi (some r) = some 0x7FF0000000000000#64) ∧
  ∀ f : BitVec 52, QuietNaN (quietNaN f)

/-! ### The assembler -/

/-- R78: the assembler never emits a reserved encoding: what it makes of any line is a well-formed command, whose
words decode to that command. -/
def Obligations.AssembledLinesAreValidCommands : Prop :=
  ∀ (line : String) (i : Instr), assemble line = .ok i →
    i.wellFormed = true ∧ decode (encode i).1 (encode i).2 = .instr i
end

