-- ==== Sys2Proof/Laws/Decode.lean ====
section
/-! SUPPORT. The encoder's small lemmas: the fields of the word `mkWord` makes, the codes read back, the checks
such a word passes, and that a repeat form survives its two fields. -/

namespace Sys2Proof

/-! ### The codes -/

@[simp] theorem opOfCode_opCode (op : Op) : opOfCode (opCode op) = some op := by cases op <;> rfl

@[simp] theorem engineOfCode_engineCode (e : Engine) : engineOfCode (engineCode e) = some e := by cases e <;> rfl

/-- A code that is read as an operation is that operation's. -/
theorem opCode_of_opOfCode {c : BitVec 4} {op : Op} (h : opOfCode c = some op) : opCode op = c := by
  revert c op; decide

/-- A code that is read as an engine is that engine's. -/
theorem engineCode_of_engineOfCode {c : BitVec 4} {e : Engine} (h : engineOfCode c = some e) :
    engineCode e = c := by
  revert c e; decide

/-! ### The fields of an encoded word -/

/-- The number a concatenation stands for. -/
theorem toNat_append_add {m n : Nat} (x : BitVec m) (y : BitVec n) :
    (x ++ y).toNat = x.toNat * 2 ^ n + y.toNat := by
  rw [BitVec.toNat_append, ← Nat.shiftLeft_add_eq_or_of_lt y.isLt, Nat.shiftLeft_eq]

section fields

variable (op : Op) (e : Engine) (bulk : BitVec 1) (cnt : BitVec 16)

/-- The number an encoded word stands for. -/
theorem toNat_mkWord :
    (mkWord op e bulk cnt).toNat =
      cnt.toNat * 65536 + bulk.toNat * 32768 + (engineCode e).toNat * 16 + (opCode op).toNat := by
  have h1 := toNat_append_add (cnt ++ bulk ++ 0#7 ++ engineCode e) (opCode op)
  have h2 := toNat_append_add (cnt ++ bulk ++ 0#7) (engineCode e)
  have h3 := toNat_append_add (cnt ++ bulk) 0#7
  have h4 := toNat_append_add cnt bulk
  rw [mkWord, h1, h2, h3, h4]
  simp
  omega

@[simp] theorem opField_mkWord : opField (mkWord op e bulk cnt) = opCode op := by
  apply BitVec.eq_of_toNat_eq
  have := (opCode op).isLt
  simp only [opField, BitVec.extractLsb'_toNat, toNat_mkWord, Nat.shiftRight_eq_div_pow]
  omega

@[simp] theorem engField_mkWord : engField (mkWord op e bulk cnt) = engineCode e := by
  apply BitVec.eq_of_toNat_eq
  have := (opCode op).isLt
  have := (engineCode e).isLt
  simp only [engField, BitVec.extractLsb'_toNat, toNat_mkWord, Nat.shiftRight_eq_div_pow]
  omega

@[simp] theorem rsvdField_mkWord : rsvdField (mkWord op e bulk cnt) = 0#7 := by
  apply BitVec.eq_of_toNat_eq
  have := (opCode op).isLt
  have := (engineCode e).isLt
  simp only [rsvdField, BitVec.extractLsb'_toNat, toNat_mkWord, Nat.shiftRight_eq_div_pow, BitVec.toNat_ofNat]
  omega

@[simp] theorem bulkField_mkWord : bulkField (mkWord op e bulk cnt) = bulk := by
  apply BitVec.eq_of_toNat_eq
  have := (opCode op).isLt
  have := (engineCode e).isLt
  have := bulk.isLt
  simp only [bulkField, BitVec.extractLsb'_toNat, toNat_mkWord, Nat.shiftRight_eq_div_pow]
  omega

@[simp] theorem cntField_mkWord : cntField (mkWord op e bulk cnt) = cnt := by
  apply BitVec.eq_of_toNat_eq
  have := (opCode op).isLt
  have := (engineCode e).isLt
  have := bulk.isLt
  have := cnt.isLt
  simp only [cntField, BitVec.extractLsb'_toNat, toNat_mkWord, Nat.shiftRight_eq_div_pow]
  omega

end fields

/-- A word is what `mkWord` makes of its fields, where RSVD is 0. -/
theorem mkWord_fields {w : U32} {op : Op} {e : Engine} (ho : opOfCode (opField w) = some op)
    (he : engineOfCode (engField w) = some e) (hr : rsvdField w = 0#7) :
    mkWord op e (bulkField w) (cntField w) = w := by
  apply BitVec.eq_of_toNat_eq
  have hr := congrArg BitVec.toNat hr
  rw [toNat_mkWord, opCode_of_opOfCode ho, engineCode_of_engineOfCode he]
  simp only [opField, engField, rsvdField, bulkField, cntField, BitVec.extractLsb'_toNat, Nat.shiftRight_eq_div_pow,
    BitVec.toNat_ofNat] at hr ⊢
  have := w.isLt
  omega

/-! ### The checks an encoded word passes -/

theorem checkWord_seed {e : Engine} (h : e ≠ .xs1024s) : checkWord (mkWord .seed e 0#1 0#16) = .ok (.seed, e) := by
  simp [checkWord, engineFor, reservedOk, pairOk, h]

theorem checkWord_seeda {e : Engine} (h : e = .xs1024s ∨ e = .mt64) (cnt : BitVec 16) :
    checkWord (mkWord .seeda e 0#1 cnt) = .ok (.seeda, e) := by
  rcases h with rfl | rfl <;> simp [checkWord, engineFor, reservedOk, pairOk]

/-- Unless BULK = 1, CNT = 0: what a repeat form's two fields are. -/
theorem repeat_fields {rep : Repeat} (h : repeatBulk rep ≠ 1#1) : repeatCnt rep = 0#16 := by
  cases rep with
  | single => rfl
  | bulk n => exact absurd rfl h

theorem checkWord_gen (e : Engine) (rep : Repeat) :
    checkWord (mkWord .gen e (repeatBulk rep) (repeatCnt rep)) = .ok (.gen, e) := by
  simpa [checkWord, engineFor, reservedOk, pairOk] using repeat_fields

theorem checkWord_genr (e : Engine) (rep : Repeat) :
    checkWord (mkWord .genr e (repeatBulk rep) (repeatCnt rep)) = .ok (.genr, e) := by
  simpa [checkWord, engineFor, reservedOk, pairOk] using repeat_fields

theorem checkWord_genrc (e : Engine) (rep : Repeat) :
    checkWord (mkWord .genrc e (repeatBulk rep) (repeatCnt rep)) = .ok (.genrc, e) := by
  simpa [checkWord, engineFor, reservedOk, pairOk] using repeat_fields

theorem checkWord_genrr (e : Engine) (rep : Repeat) :
    checkWord (mkWord .genrr e (repeatBulk rep) (repeatCnt rep)) = .ok (.genrr, e) := by
  simpa [checkWord, engineFor, reservedOk, pairOk] using repeat_fields

theorem checkWord_status : checkWord (mkWord .status .xs32 0#1 0#16) = .ok (.status, .xs32) := by decide

/-- A repeat form is read back from its two fields (30_encoding.md R69). -/
@[simp] theorem repeatOf_mkWord (op : Op) (e : Engine) (rep : Repeat) :
    repeatOf (mkWord op e (repeatBulk rep) (repeatCnt rep)) = rep := by
  cases rep <;> simp [repeatOf, repeatBulk, repeatCnt]

/-- CNT of a well-formed key is its length. -/
theorem toNat_keyCnt {key : List U64} (h : keyExpressible key = true) : (keyCnt key).toNat = key.length := by
  have h : key.length ≤ 65535 := by simpa [keyExpressible] using h
  simp only [keyCnt, BitVec.toNat_ofNat]
  omega

/-- What the decoder does with a word that passes checks 1 to 4 and has its operands. -/
theorem decode_of_checkWord {w : U32} {ops : List U64} {op : Op} {e : Engine} {i : Instr}
    (hc : checkWord w = .ok (op, e)) (hn : ops.length = operandCount op e (cntField w))
    (hb : build op e w ops = some i) : decode w ops = .instr i := by
  simp [decode, hc, hn, hb]

/-! ### The encoder by operation -/

@[simp] theorem encode_fst (i : Instr) : (encode i).1 = encodeWord i := rfl

@[simp] theorem encode_snd (i : Instr) : (encode i).2 = encodeOps i := rfl

theorem encode_buildSeed {e : Engine} {ops : List U64} {i : Instr} (h : buildSeed e ops = some i) :
    e ≠ .xs1024s ∧ i.wellFormed = true ∧ encode i = (mkWord .seed e 0#1 0#16, ops) ∧
      ops.length = operandCount .seed e 0#16 := by
  unfold buildSeed at h
  split at h <;> cases h <;> refine ⟨by decide, rfl, rfl, rfl⟩

theorem encode_buildSeeda {e : Engine} {key : List U64} {i : Instr} (h : buildSeeda e key = some i) :
    (e = .xs1024s ∨ e = .mt64) ∧ i.wellFormed = keyExpressible key ∧
      encode i = (mkWord .seeda e 0#1 (keyCnt key), key) := by
  unfold buildSeeda at h
  split at h <;> cases h <;> simp [encode, encodeWord, encodeOps, Instr.wellFormed]

theorem encode_buildGen (rep : Repeat) (e : Engine) :
    encode (buildGen rep e) = (mkWord .gen e (repeatBulk rep) (repeatCnt rep), []) := by cases e <;> rfl

theorem encode_buildGenr (rep : Repeat) (e : Engine) :
    encode (buildGenr rep e) = (mkWord .genr e (repeatBulk rep) (repeatCnt rep), []) := by cases e <;> rfl

theorem encode_buildGenrc (rep : Repeat) (e : Engine) :
    encode (buildGenrc rep e) = (mkWord .genrc e (repeatBulk rep) (repeatCnt rep), []) := by cases e <;> rfl

theorem encode_buildGenrr (rep : Repeat) (lo hi : U64) (e : Engine) :
    encode (buildGenrr rep lo hi e) = (mkWord .genrr e (repeatBulk rep) (repeatCnt rep), [lo, hi]) := by
  cases e <;> rfl

theorem encode_status : encode .status = (mkWord .status .xs32 0#1 0#16, []) := rfl

/-! ### The builder by operation -/

theorem build_seed (e : Engine) (w : U32) (ops : List U64) : build .seed e w ops = buildSeed e ops := rfl

theorem build_seeda (e : Engine) (w : U32) (ops : List U64) : build .seeda e w ops = buildSeeda e ops := rfl

theorem build_gen (e : Engine) (w : U32) : build .gen e w [] = some (buildGen (repeatOf w) e) := rfl

theorem build_genr (e : Engine) (w : U32) : build .genr e w [] = some (buildGenr (repeatOf w) e) := rfl

theorem build_genrc (e : Engine) (w : U32) : build .genrc e w [] = some (buildGenrc (repeatOf w) e) := rfl

theorem build_genrr (e : Engine) (w : U32) (lo hi : U64) :
    build .genrr e w [lo, hi] = some (buildGenrr (repeatOf w) lo hi e) := rfl

/-- Every command is what one of the builders makes. -/
theorem instr_cases (i : Instr) :
    (∃ e ops, buildSeed e ops = some i) ∨ (∃ e key, buildSeeda e key = some i) ∨ (∃ rep e, i = buildGen rep e) ∨
      (∃ rep e, i = buildGenr rep e) ∨ (∃ rep e, i = buildGenrc rep e) ∨
      (∃ rep lo hi e, i = buildGenrr rep lo hi e) ∨ i = .status := by
  cases i
  case seedXs32 a => exact .inl ⟨.xs32, [a], rfl⟩
  case seedXs64 a => exact .inl ⟨.xs64, [a], rfl⟩
  case seedXs128 a b => exact .inl ⟨.xs128, [a, b], rfl⟩
  case seedXs64s a => exact .inl ⟨.xs64s, [a], rfl⟩
  case seedPcg32LcgXshrr a => exact .inl ⟨.pcg32LcgXshrr, [a], rfl⟩
  case seedPcg32LcgXshrs a => exact .inl ⟨.pcg32LcgXshrs, [a], rfl⟩
  case seedPcg32McgXshrr a => exact .inl ⟨.pcg32McgXshrr, [a], rfl⟩
  case seedPcg32McgXshrs a => exact .inl ⟨.pcg32McgXshrs, [a], rfl⟩
  case seedPcg64LcgXslrr a b => exact .inl ⟨.pcg64LcgXslrr, [a, b], rfl⟩
  case seedPcg64McgXslrr a b => exact .inl ⟨.pcg64McgXslrr, [a, b], rfl⟩
  case seedMt64 a => exact .inl ⟨.mt64, [a], rfl⟩
  case seedaXs1024s key => exact .inr (.inl ⟨.xs1024s, key, rfl⟩)
  case seedaMt64 key => exact .inr (.inl ⟨.mt64, key, rfl⟩)
  case status => simp
  case genXs32 rep => exact .inr (.inr (.inl ⟨rep, .xs32, rfl⟩))
  case genXs64 rep => exact .inr (.inr (.inl ⟨rep, .xs64, rfl⟩))
  case genXs128 rep => exact .inr (.inr (.inl ⟨rep, .xs128, rfl⟩))
  case genXs64s rep => exact .inr (.inr (.inl ⟨rep, .xs64s, rfl⟩))
  case genXs1024s rep => exact .inr (.inr (.inl ⟨rep, .xs1024s, rfl⟩))
  case genPcg32LcgXshrr rep => exact .inr (.inr (.inl ⟨rep, .pcg32LcgXshrr, rfl⟩))
  case genPcg32LcgXshrs rep => exact .inr (.inr (.inl ⟨rep, .pcg32LcgXshrs, rfl⟩))
  case genPcg32McgXshrr rep => exact .inr (.inr (.inl ⟨rep, .pcg32McgXshrr, rfl⟩))
  case genPcg32McgXshrs rep => exact .inr (.inr (.inl ⟨rep, .pcg32McgXshrs, rfl⟩))
  case genPcg64LcgXslrr rep => exact .inr (.inr (.inl ⟨rep, .pcg64LcgXslrr, rfl⟩))
  case genPcg64McgXslrr rep => exact .inr (.inr (.inl ⟨rep, .pcg64McgXslrr, rfl⟩))
  case genMt64 rep => exact .inr (.inr (.inl ⟨rep, .mt64, rfl⟩))
  case genrXs32 rep => exact .inr (.inr (.inr (.inl ⟨rep, .xs32, rfl⟩)))
  case genrXs64 rep => exact .inr (.inr (.inr (.inl ⟨rep, .xs64, rfl⟩)))
  case genrXs128 rep => exact .inr (.inr (.inr (.inl ⟨rep, .xs128, rfl⟩)))
  case genrXs64s rep => exact .inr (.inr (.inr (.inl ⟨rep, .xs64s, rfl⟩)))
  case genrXs1024s rep => exact .inr (.inr (.inr (.inl ⟨rep, .xs1024s, rfl⟩)))
  case genrPcg32LcgXshrr rep => exact .inr (.inr (.inr (.inl ⟨rep, .pcg32LcgXshrr, rfl⟩)))
  case genrPcg32LcgXshrs rep => exact .inr (.inr (.inr (.inl ⟨rep, .pcg32LcgXshrs, rfl⟩)))
  case genrPcg32McgXshrr rep => exact .inr (.inr (.inr (.inl ⟨rep, .pcg32McgXshrr, rfl⟩)))
  case genrPcg32McgXshrs rep => exact .inr (.inr (.inr (.inl ⟨rep, .pcg32McgXshrs, rfl⟩)))
  case genrPcg64LcgXslrr rep => exact .inr (.inr (.inr (.inl ⟨rep, .pcg64LcgXslrr, rfl⟩)))
  case genrPcg64McgXslrr rep => exact .inr (.inr (.inr (.inl ⟨rep, .pcg64McgXslrr, rfl⟩)))
  case genrMt64 rep => exact .inr (.inr (.inr (.inl ⟨rep, .mt64, rfl⟩)))
  case genrcXs32 rep => exact .inr (.inr (.inr (.inr (.inl ⟨rep, .xs32, rfl⟩))))
  case genrcXs64 rep => exact .inr (.inr (.inr (.inr (.inl ⟨rep, .xs64, rfl⟩))))
  case genrcXs128 rep => exact .inr (.inr (.inr (.inr (.inl ⟨rep, .xs128, rfl⟩))))
  case genrcXs64s rep => exact .inr (.inr (.inr (.inr (.inl ⟨rep, .xs64s, rfl⟩))))
  case genrcXs1024s rep => exact .inr (.inr (.inr (.inr (.inl ⟨rep, .xs1024s, rfl⟩))))
  case genrcPcg32LcgXshrr rep => exact .inr (.inr (.inr (.inr (.inl ⟨rep, .pcg32LcgXshrr, rfl⟩))))
  case genrcPcg32LcgXshrs rep => exact .inr (.inr (.inr (.inr (.inl ⟨rep, .pcg32LcgXshrs, rfl⟩))))
  case genrcPcg32McgXshrr rep => exact .inr (.inr (.inr (.inr (.inl ⟨rep, .pcg32McgXshrr, rfl⟩))))
  case genrcPcg32McgXshrs rep => exact .inr (.inr (.inr (.inr (.inl ⟨rep, .pcg32McgXshrs, rfl⟩))))
  case genrcPcg64LcgXslrr rep => exact .inr (.inr (.inr (.inr (.inl ⟨rep, .pcg64LcgXslrr, rfl⟩))))
  case genrcPcg64McgXslrr rep => exact .inr (.inr (.inr (.inr (.inl ⟨rep, .pcg64McgXslrr, rfl⟩))))
  case genrcMt64 rep => exact .inr (.inr (.inr (.inr (.inl ⟨rep, .mt64, rfl⟩))))
  case genrrXs32 rep lo hi => exact .inr (.inr (.inr (.inr (.inr (.inl ⟨rep, lo, hi, .xs32, rfl⟩)))))
  case genrrXs64 rep lo hi => exact .inr (.inr (.inr (.inr (.inr (.inl ⟨rep, lo, hi, .xs64, rfl⟩)))))
  case genrrXs128 rep lo hi => exact .inr (.inr (.inr (.inr (.inr (.inl ⟨rep, lo, hi, .xs128, rfl⟩)))))
  case genrrXs64s rep lo hi => exact .inr (.inr (.inr (.inr (.inr (.inl ⟨rep, lo, hi, .xs64s, rfl⟩)))))
  case genrrXs1024s rep lo hi => exact .inr (.inr (.inr (.inr (.inr (.inl ⟨rep, lo, hi, .xs1024s, rfl⟩)))))
  case genrrPcg32LcgXshrr rep lo hi => exact .inr (.inr (.inr (.inr (.inr (.inl ⟨rep, lo, hi, .pcg32LcgXshrr, rfl⟩)))))
  case genrrPcg32LcgXshrs rep lo hi => exact .inr (.inr (.inr (.inr (.inr (.inl ⟨rep, lo, hi, .pcg32LcgXshrs, rfl⟩)))))
  case genrrPcg32McgXshrr rep lo hi => exact .inr (.inr (.inr (.inr (.inr (.inl ⟨rep, lo, hi, .pcg32McgXshrr, rfl⟩)))))
  case genrrPcg32McgXshrs rep lo hi => exact .inr (.inr (.inr (.inr (.inr (.inl ⟨rep, lo, hi, .pcg32McgXshrs, rfl⟩)))))
  case genrrPcg64LcgXslrr rep lo hi => exact .inr (.inr (.inr (.inr (.inr (.inl ⟨rep, lo, hi, .pcg64LcgXslrr, rfl⟩)))))
  case genrrPcg64McgXslrr rep lo hi => exact .inr (.inr (.inr (.inr (.inr (.inl ⟨rep, lo, hi, .pcg64McgXslrr, rfl⟩)))))
  case genrrMt64 rep lo hi => exact .inr (.inr (.inr (.inr (.inr (.inl ⟨rep, lo, hi, .mt64, rfl⟩)))))

/-- CNT and BULK read back as the repeat form they are the fields of. -/
theorem repeat_of_fields {w : U32} (h : bulkField w = 1#1 ∨ cntField w = 0#16) :
    repeatBulk (repeatOf w) = bulkField w ∧ repeatCnt (repeatOf w) = cntField w := by
  unfold repeatOf
  split
  · simp [repeatBulk, repeatCnt, *]
  · have hb : bulkField w = 0#1 := by
      rcases BitVec.eq_zero_or_eq_one (bulkField w) with h | h
      · exact h
      · contradiction
    exact ⟨hb.symm, by simp_all [repeatCnt]⟩

/-- What the decoder accepts: the fields passed checks 1 to 4, the operand words were counted, and the builder made
the command. -/
theorem decode_instr {w : U32} {ops : List U64} {i : Instr} (h : decode w ops = .instr i) :
    ∃ op e, checkWord w = .ok (op, e) ∧ ops.length = operandCount op e (cntField w) ∧ build op e w ops = some i := by
  unfold decode at h
  split at h
  · cases h
  · rename_i op e hc
    split at h
    · rename_i hn
      split at h
      · rename_i j hb
        cases h
        exact ⟨op, e, hc, hn, hb⟩
      · cases h
    · cases h

/-- What a word that passes checks 1 to 4 is (R342). -/
theorem checkWord_ok {w : U32} {op : Op} {e : Engine} (h : checkWord w = .ok (op, e)) :
    opOfCode (opField w) = some op ∧ engineFor op (engField w) = some e ∧ reservedOk op w = true ∧
      pairOk op e = true := by
  unfold checkWord at h
  split at h
  · cases h
  · rename_i op' ho
    split at h
    · cases h
    · rename_i e' he
      split_ifs at h with h3 h4
      cases h
      exact ⟨ho, he, by simpa using h3, by simpa using h4⟩

end Sys2Proof
end

