-- ==== Sys2Proof/Laws/State.lean ====
section
/-! SUPPORT. For each named update of State (Sys2Proof/Machine/Ops.lean) one lemma per field, true by rfl: what
the update writes and what it leaves. No later proof unfolds a record update. -/

namespace Sys2Proof.Machine

section setXs32

variable (v : XsEngine 32) (s : State)

@[simp] theorem State.setXs32_xs32 : (s.setXs32 v).xs32 = v := rfl
@[simp] theorem State.setXs32_xs64 : (s.setXs32 v).xs64 = s.xs64 := rfl
@[simp] theorem State.setXs32_xs128 : (s.setXs32 v).xs128 = s.xs128 := rfl
@[simp] theorem State.setXs32_xs64s : (s.setXs32 v).xs64s = s.xs64s := rfl
@[simp] theorem State.setXs32_xs1024s : (s.setXs32 v).xs1024s = s.xs1024s := rfl
@[simp] theorem State.setXs32_pcg32LcgXshrr : (s.setXs32 v).pcg32LcgXshrr = s.pcg32LcgXshrr := rfl
@[simp] theorem State.setXs32_pcg32LcgXshrs : (s.setXs32 v).pcg32LcgXshrs = s.pcg32LcgXshrs := rfl
@[simp] theorem State.setXs32_pcg32McgXshrr : (s.setXs32 v).pcg32McgXshrr = s.pcg32McgXshrr := rfl
@[simp] theorem State.setXs32_pcg32McgXshrs : (s.setXs32 v).pcg32McgXshrs = s.pcg32McgXshrs := rfl
@[simp] theorem State.setXs32_pcg64LcgXslrr : (s.setXs32 v).pcg64LcgXslrr = s.pcg64LcgXslrr := rfl
@[simp] theorem State.setXs32_pcg64McgXslrr : (s.setXs32 v).pcg64McgXslrr = s.pcg64McgXslrr := rfl
@[simp] theorem State.setXs32_mt64 : (s.setXs32 v).mt64 = s.mt64 := rfl
@[simp] theorem State.setXs32_faults : (s.setXs32 v).faults = s.faults := rfl
@[simp] theorem State.setXs32_pending : (s.setXs32 v).pending = s.pending := rfl
@[simp] theorem State.setXs32_responses : (s.setXs32 v).responses = s.responses := rfl
@[simp] theorem State.setXs32_draws : (s.setXs32 v).draws = s.draws := rfl
theorem State.setXs32_toBlock :
    (s.setXs32 v).toBlock = { s.toBlock with xs32 := v } := rfl

end setXs32

section setXs64

variable (v : XsEngine 64) (s : State)

@[simp] theorem State.setXs64_xs32 : (s.setXs64 v).xs32 = s.xs32 := rfl
@[simp] theorem State.setXs64_xs64 : (s.setXs64 v).xs64 = v := rfl
@[simp] theorem State.setXs64_xs128 : (s.setXs64 v).xs128 = s.xs128 := rfl
@[simp] theorem State.setXs64_xs64s : (s.setXs64 v).xs64s = s.xs64s := rfl
@[simp] theorem State.setXs64_xs1024s : (s.setXs64 v).xs1024s = s.xs1024s := rfl
@[simp] theorem State.setXs64_pcg32LcgXshrr : (s.setXs64 v).pcg32LcgXshrr = s.pcg32LcgXshrr := rfl
@[simp] theorem State.setXs64_pcg32LcgXshrs : (s.setXs64 v).pcg32LcgXshrs = s.pcg32LcgXshrs := rfl
@[simp] theorem State.setXs64_pcg32McgXshrr : (s.setXs64 v).pcg32McgXshrr = s.pcg32McgXshrr := rfl
@[simp] theorem State.setXs64_pcg32McgXshrs : (s.setXs64 v).pcg32McgXshrs = s.pcg32McgXshrs := rfl
@[simp] theorem State.setXs64_pcg64LcgXslrr : (s.setXs64 v).pcg64LcgXslrr = s.pcg64LcgXslrr := rfl
@[simp] theorem State.setXs64_pcg64McgXslrr : (s.setXs64 v).pcg64McgXslrr = s.pcg64McgXslrr := rfl
@[simp] theorem State.setXs64_mt64 : (s.setXs64 v).mt64 = s.mt64 := rfl
@[simp] theorem State.setXs64_faults : (s.setXs64 v).faults = s.faults := rfl
@[simp] theorem State.setXs64_pending : (s.setXs64 v).pending = s.pending := rfl
@[simp] theorem State.setXs64_responses : (s.setXs64 v).responses = s.responses := rfl
@[simp] theorem State.setXs64_draws : (s.setXs64 v).draws = s.draws := rfl
theorem State.setXs64_toBlock :
    (s.setXs64 v).toBlock = { s.toBlock with xs64 := v } := rfl

end setXs64

section setXs128

variable (v : Xs128Engine) (s : State)

@[simp] theorem State.setXs128_xs32 : (s.setXs128 v).xs32 = s.xs32 := rfl
@[simp] theorem State.setXs128_xs64 : (s.setXs128 v).xs64 = s.xs64 := rfl
@[simp] theorem State.setXs128_xs128 : (s.setXs128 v).xs128 = v := rfl
@[simp] theorem State.setXs128_xs64s : (s.setXs128 v).xs64s = s.xs64s := rfl
@[simp] theorem State.setXs128_xs1024s : (s.setXs128 v).xs1024s = s.xs1024s := rfl
@[simp] theorem State.setXs128_pcg32LcgXshrr : (s.setXs128 v).pcg32LcgXshrr = s.pcg32LcgXshrr := rfl
@[simp] theorem State.setXs128_pcg32LcgXshrs : (s.setXs128 v).pcg32LcgXshrs = s.pcg32LcgXshrs := rfl
@[simp] theorem State.setXs128_pcg32McgXshrr : (s.setXs128 v).pcg32McgXshrr = s.pcg32McgXshrr := rfl
@[simp] theorem State.setXs128_pcg32McgXshrs : (s.setXs128 v).pcg32McgXshrs = s.pcg32McgXshrs := rfl
@[simp] theorem State.setXs128_pcg64LcgXslrr : (s.setXs128 v).pcg64LcgXslrr = s.pcg64LcgXslrr := rfl
@[simp] theorem State.setXs128_pcg64McgXslrr : (s.setXs128 v).pcg64McgXslrr = s.pcg64McgXslrr := rfl
@[simp] theorem State.setXs128_mt64 : (s.setXs128 v).mt64 = s.mt64 := rfl
@[simp] theorem State.setXs128_faults : (s.setXs128 v).faults = s.faults := rfl
@[simp] theorem State.setXs128_pending : (s.setXs128 v).pending = s.pending := rfl
@[simp] theorem State.setXs128_responses : (s.setXs128 v).responses = s.responses := rfl
@[simp] theorem State.setXs128_draws : (s.setXs128 v).draws = s.draws := rfl
theorem State.setXs128_toBlock :
    (s.setXs128 v).toBlock = { s.toBlock with xs128 := v } := rfl

end setXs128

section setXs64s

variable (v : XsEngine 64) (s : State)

@[simp] theorem State.setXs64s_xs32 : (s.setXs64s v).xs32 = s.xs32 := rfl
@[simp] theorem State.setXs64s_xs64 : (s.setXs64s v).xs64 = s.xs64 := rfl
@[simp] theorem State.setXs64s_xs128 : (s.setXs64s v).xs128 = s.xs128 := rfl
@[simp] theorem State.setXs64s_xs64s : (s.setXs64s v).xs64s = v := rfl
@[simp] theorem State.setXs64s_xs1024s : (s.setXs64s v).xs1024s = s.xs1024s := rfl
@[simp] theorem State.setXs64s_pcg32LcgXshrr : (s.setXs64s v).pcg32LcgXshrr = s.pcg32LcgXshrr := rfl
@[simp] theorem State.setXs64s_pcg32LcgXshrs : (s.setXs64s v).pcg32LcgXshrs = s.pcg32LcgXshrs := rfl
@[simp] theorem State.setXs64s_pcg32McgXshrr : (s.setXs64s v).pcg32McgXshrr = s.pcg32McgXshrr := rfl
@[simp] theorem State.setXs64s_pcg32McgXshrs : (s.setXs64s v).pcg32McgXshrs = s.pcg32McgXshrs := rfl
@[simp] theorem State.setXs64s_pcg64LcgXslrr : (s.setXs64s v).pcg64LcgXslrr = s.pcg64LcgXslrr := rfl
@[simp] theorem State.setXs64s_pcg64McgXslrr : (s.setXs64s v).pcg64McgXslrr = s.pcg64McgXslrr := rfl
@[simp] theorem State.setXs64s_mt64 : (s.setXs64s v).mt64 = s.mt64 := rfl
@[simp] theorem State.setXs64s_faults : (s.setXs64s v).faults = s.faults := rfl
@[simp] theorem State.setXs64s_pending : (s.setXs64s v).pending = s.pending := rfl
@[simp] theorem State.setXs64s_responses : (s.setXs64s v).responses = s.responses := rfl
@[simp] theorem State.setXs64s_draws : (s.setXs64s v).draws = s.draws := rfl
theorem State.setXs64s_toBlock :
    (s.setXs64s v).toBlock = { s.toBlock with xs64s := v } := rfl

end setXs64s

section setXs1024s

variable (v : Xs1024sEngine) (s : State)

@[simp] theorem State.setXs1024s_xs32 : (s.setXs1024s v).xs32 = s.xs32 := rfl
@[simp] theorem State.setXs1024s_xs64 : (s.setXs1024s v).xs64 = s.xs64 := rfl
@[simp] theorem State.setXs1024s_xs128 : (s.setXs1024s v).xs128 = s.xs128 := rfl
@[simp] theorem State.setXs1024s_xs64s : (s.setXs1024s v).xs64s = s.xs64s := rfl
@[simp] theorem State.setXs1024s_xs1024s : (s.setXs1024s v).xs1024s = v := rfl
@[simp] theorem State.setXs1024s_pcg32LcgXshrr : (s.setXs1024s v).pcg32LcgXshrr = s.pcg32LcgXshrr := rfl
@[simp] theorem State.setXs1024s_pcg32LcgXshrs : (s.setXs1024s v).pcg32LcgXshrs = s.pcg32LcgXshrs := rfl
@[simp] theorem State.setXs1024s_pcg32McgXshrr : (s.setXs1024s v).pcg32McgXshrr = s.pcg32McgXshrr := rfl
@[simp] theorem State.setXs1024s_pcg32McgXshrs : (s.setXs1024s v).pcg32McgXshrs = s.pcg32McgXshrs := rfl
@[simp] theorem State.setXs1024s_pcg64LcgXslrr : (s.setXs1024s v).pcg64LcgXslrr = s.pcg64LcgXslrr := rfl
@[simp] theorem State.setXs1024s_pcg64McgXslrr : (s.setXs1024s v).pcg64McgXslrr = s.pcg64McgXslrr := rfl
@[simp] theorem State.setXs1024s_mt64 : (s.setXs1024s v).mt64 = s.mt64 := rfl
@[simp] theorem State.setXs1024s_faults : (s.setXs1024s v).faults = s.faults := rfl
@[simp] theorem State.setXs1024s_pending : (s.setXs1024s v).pending = s.pending := rfl
@[simp] theorem State.setXs1024s_responses : (s.setXs1024s v).responses = s.responses := rfl
@[simp] theorem State.setXs1024s_draws : (s.setXs1024s v).draws = s.draws := rfl
theorem State.setXs1024s_toBlock :
    (s.setXs1024s v).toBlock = { s.toBlock with xs1024s := v } := rfl

end setXs1024s

section setPcg32LcgXshrr

variable (v : PcgEngine 64) (s : State)

@[simp] theorem State.setPcg32LcgXshrr_xs32 : (s.setPcg32LcgXshrr v).xs32 = s.xs32 := rfl
@[simp] theorem State.setPcg32LcgXshrr_xs64 : (s.setPcg32LcgXshrr v).xs64 = s.xs64 := rfl
@[simp] theorem State.setPcg32LcgXshrr_xs128 : (s.setPcg32LcgXshrr v).xs128 = s.xs128 := rfl
@[simp] theorem State.setPcg32LcgXshrr_xs64s : (s.setPcg32LcgXshrr v).xs64s = s.xs64s := rfl
@[simp] theorem State.setPcg32LcgXshrr_xs1024s : (s.setPcg32LcgXshrr v).xs1024s = s.xs1024s := rfl
@[simp] theorem State.setPcg32LcgXshrr_pcg32LcgXshrr : (s.setPcg32LcgXshrr v).pcg32LcgXshrr = v := rfl
@[simp] theorem State.setPcg32LcgXshrr_pcg32LcgXshrs : (s.setPcg32LcgXshrr v).pcg32LcgXshrs = s.pcg32LcgXshrs := rfl
@[simp] theorem State.setPcg32LcgXshrr_pcg32McgXshrr : (s.setPcg32LcgXshrr v).pcg32McgXshrr = s.pcg32McgXshrr := rfl
@[simp] theorem State.setPcg32LcgXshrr_pcg32McgXshrs : (s.setPcg32LcgXshrr v).pcg32McgXshrs = s.pcg32McgXshrs := rfl
@[simp] theorem State.setPcg32LcgXshrr_pcg64LcgXslrr : (s.setPcg32LcgXshrr v).pcg64LcgXslrr = s.pcg64LcgXslrr := rfl
@[simp] theorem State.setPcg32LcgXshrr_pcg64McgXslrr : (s.setPcg32LcgXshrr v).pcg64McgXslrr = s.pcg64McgXslrr := rfl
@[simp] theorem State.setPcg32LcgXshrr_mt64 : (s.setPcg32LcgXshrr v).mt64 = s.mt64 := rfl
@[simp] theorem State.setPcg32LcgXshrr_faults : (s.setPcg32LcgXshrr v).faults = s.faults := rfl
@[simp] theorem State.setPcg32LcgXshrr_pending : (s.setPcg32LcgXshrr v).pending = s.pending := rfl
@[simp] theorem State.setPcg32LcgXshrr_responses : (s.setPcg32LcgXshrr v).responses = s.responses := rfl
@[simp] theorem State.setPcg32LcgXshrr_draws : (s.setPcg32LcgXshrr v).draws = s.draws := rfl
theorem State.setPcg32LcgXshrr_toBlock :
    (s.setPcg32LcgXshrr v).toBlock = { s.toBlock with pcg32LcgXshrr := v } := rfl

end setPcg32LcgXshrr

section setPcg32LcgXshrs

variable (v : PcgEngine 64) (s : State)

@[simp] theorem State.setPcg32LcgXshrs_xs32 : (s.setPcg32LcgXshrs v).xs32 = s.xs32 := rfl
@[simp] theorem State.setPcg32LcgXshrs_xs64 : (s.setPcg32LcgXshrs v).xs64 = s.xs64 := rfl
@[simp] theorem State.setPcg32LcgXshrs_xs128 : (s.setPcg32LcgXshrs v).xs128 = s.xs128 := rfl
@[simp] theorem State.setPcg32LcgXshrs_xs64s : (s.setPcg32LcgXshrs v).xs64s = s.xs64s := rfl
@[simp] theorem State.setPcg32LcgXshrs_xs1024s : (s.setPcg32LcgXshrs v).xs1024s = s.xs1024s := rfl
@[simp] theorem State.setPcg32LcgXshrs_pcg32LcgXshrr : (s.setPcg32LcgXshrs v).pcg32LcgXshrr = s.pcg32LcgXshrr := rfl
@[simp] theorem State.setPcg32LcgXshrs_pcg32LcgXshrs : (s.setPcg32LcgXshrs v).pcg32LcgXshrs = v := rfl
@[simp] theorem State.setPcg32LcgXshrs_pcg32McgXshrr : (s.setPcg32LcgXshrs v).pcg32McgXshrr = s.pcg32McgXshrr := rfl
@[simp] theorem State.setPcg32LcgXshrs_pcg32McgXshrs : (s.setPcg32LcgXshrs v).pcg32McgXshrs = s.pcg32McgXshrs := rfl
@[simp] theorem State.setPcg32LcgXshrs_pcg64LcgXslrr : (s.setPcg32LcgXshrs v).pcg64LcgXslrr = s.pcg64LcgXslrr := rfl
@[simp] theorem State.setPcg32LcgXshrs_pcg64McgXslrr : (s.setPcg32LcgXshrs v).pcg64McgXslrr = s.pcg64McgXslrr := rfl
@[simp] theorem State.setPcg32LcgXshrs_mt64 : (s.setPcg32LcgXshrs v).mt64 = s.mt64 := rfl
@[simp] theorem State.setPcg32LcgXshrs_faults : (s.setPcg32LcgXshrs v).faults = s.faults := rfl
@[simp] theorem State.setPcg32LcgXshrs_pending : (s.setPcg32LcgXshrs v).pending = s.pending := rfl
@[simp] theorem State.setPcg32LcgXshrs_responses : (s.setPcg32LcgXshrs v).responses = s.responses := rfl
@[simp] theorem State.setPcg32LcgXshrs_draws : (s.setPcg32LcgXshrs v).draws = s.draws := rfl
theorem State.setPcg32LcgXshrs_toBlock :
    (s.setPcg32LcgXshrs v).toBlock = { s.toBlock with pcg32LcgXshrs := v } := rfl

end setPcg32LcgXshrs

section setPcg32McgXshrr

variable (v : PcgEngine 64) (s : State)

@[simp] theorem State.setPcg32McgXshrr_xs32 : (s.setPcg32McgXshrr v).xs32 = s.xs32 := rfl
@[simp] theorem State.setPcg32McgXshrr_xs64 : (s.setPcg32McgXshrr v).xs64 = s.xs64 := rfl
@[simp] theorem State.setPcg32McgXshrr_xs128 : (s.setPcg32McgXshrr v).xs128 = s.xs128 := rfl
@[simp] theorem State.setPcg32McgXshrr_xs64s : (s.setPcg32McgXshrr v).xs64s = s.xs64s := rfl
@[simp] theorem State.setPcg32McgXshrr_xs1024s : (s.setPcg32McgXshrr v).xs1024s = s.xs1024s := rfl
@[simp] theorem State.setPcg32McgXshrr_pcg32LcgXshrr : (s.setPcg32McgXshrr v).pcg32LcgXshrr = s.pcg32LcgXshrr := rfl
@[simp] theorem State.setPcg32McgXshrr_pcg32LcgXshrs : (s.setPcg32McgXshrr v).pcg32LcgXshrs = s.pcg32LcgXshrs := rfl
@[simp] theorem State.setPcg32McgXshrr_pcg32McgXshrr : (s.setPcg32McgXshrr v).pcg32McgXshrr = v := rfl
@[simp] theorem State.setPcg32McgXshrr_pcg32McgXshrs : (s.setPcg32McgXshrr v).pcg32McgXshrs = s.pcg32McgXshrs := rfl
@[simp] theorem State.setPcg32McgXshrr_pcg64LcgXslrr : (s.setPcg32McgXshrr v).pcg64LcgXslrr = s.pcg64LcgXslrr := rfl
@[simp] theorem State.setPcg32McgXshrr_pcg64McgXslrr : (s.setPcg32McgXshrr v).pcg64McgXslrr = s.pcg64McgXslrr := rfl
@[simp] theorem State.setPcg32McgXshrr_mt64 : (s.setPcg32McgXshrr v).mt64 = s.mt64 := rfl
@[simp] theorem State.setPcg32McgXshrr_faults : (s.setPcg32McgXshrr v).faults = s.faults := rfl
@[simp] theorem State.setPcg32McgXshrr_pending : (s.setPcg32McgXshrr v).pending = s.pending := rfl
@[simp] theorem State.setPcg32McgXshrr_responses : (s.setPcg32McgXshrr v).responses = s.responses := rfl
@[simp] theorem State.setPcg32McgXshrr_draws : (s.setPcg32McgXshrr v).draws = s.draws := rfl
theorem State.setPcg32McgXshrr_toBlock :
    (s.setPcg32McgXshrr v).toBlock = { s.toBlock with pcg32McgXshrr := v } := rfl

end setPcg32McgXshrr

section setPcg32McgXshrs

variable (v : PcgEngine 64) (s : State)

@[simp] theorem State.setPcg32McgXshrs_xs32 : (s.setPcg32McgXshrs v).xs32 = s.xs32 := rfl
@[simp] theorem State.setPcg32McgXshrs_xs64 : (s.setPcg32McgXshrs v).xs64 = s.xs64 := rfl
@[simp] theorem State.setPcg32McgXshrs_xs128 : (s.setPcg32McgXshrs v).xs128 = s.xs128 := rfl
@[simp] theorem State.setPcg32McgXshrs_xs64s : (s.setPcg32McgXshrs v).xs64s = s.xs64s := rfl
@[simp] theorem State.setPcg32McgXshrs_xs1024s : (s.setPcg32McgXshrs v).xs1024s = s.xs1024s := rfl
@[simp] theorem State.setPcg32McgXshrs_pcg32LcgXshrr : (s.setPcg32McgXshrs v).pcg32LcgXshrr = s.pcg32LcgXshrr := rfl
@[simp] theorem State.setPcg32McgXshrs_pcg32LcgXshrs : (s.setPcg32McgXshrs v).pcg32LcgXshrs = s.pcg32LcgXshrs := rfl
@[simp] theorem State.setPcg32McgXshrs_pcg32McgXshrr : (s.setPcg32McgXshrs v).pcg32McgXshrr = s.pcg32McgXshrr := rfl
@[simp] theorem State.setPcg32McgXshrs_pcg32McgXshrs : (s.setPcg32McgXshrs v).pcg32McgXshrs = v := rfl
@[simp] theorem State.setPcg32McgXshrs_pcg64LcgXslrr : (s.setPcg32McgXshrs v).pcg64LcgXslrr = s.pcg64LcgXslrr := rfl
@[simp] theorem State.setPcg32McgXshrs_pcg64McgXslrr : (s.setPcg32McgXshrs v).pcg64McgXslrr = s.pcg64McgXslrr := rfl
@[simp] theorem State.setPcg32McgXshrs_mt64 : (s.setPcg32McgXshrs v).mt64 = s.mt64 := rfl
@[simp] theorem State.setPcg32McgXshrs_faults : (s.setPcg32McgXshrs v).faults = s.faults := rfl
@[simp] theorem State.setPcg32McgXshrs_pending : (s.setPcg32McgXshrs v).pending = s.pending := rfl
@[simp] theorem State.setPcg32McgXshrs_responses : (s.setPcg32McgXshrs v).responses = s.responses := rfl
@[simp] theorem State.setPcg32McgXshrs_draws : (s.setPcg32McgXshrs v).draws = s.draws := rfl
theorem State.setPcg32McgXshrs_toBlock :
    (s.setPcg32McgXshrs v).toBlock = { s.toBlock with pcg32McgXshrs := v } := rfl

end setPcg32McgXshrs

section setPcg64LcgXslrr

variable (v : PcgEngine 128) (s : State)

@[simp] theorem State.setPcg64LcgXslrr_xs32 : (s.setPcg64LcgXslrr v).xs32 = s.xs32 := rfl
@[simp] theorem State.setPcg64LcgXslrr_xs64 : (s.setPcg64LcgXslrr v).xs64 = s.xs64 := rfl
@[simp] theorem State.setPcg64LcgXslrr_xs128 : (s.setPcg64LcgXslrr v).xs128 = s.xs128 := rfl
@[simp] theorem State.setPcg64LcgXslrr_xs64s : (s.setPcg64LcgXslrr v).xs64s = s.xs64s := rfl
@[simp] theorem State.setPcg64LcgXslrr_xs1024s : (s.setPcg64LcgXslrr v).xs1024s = s.xs1024s := rfl
@[simp] theorem State.setPcg64LcgXslrr_pcg32LcgXshrr : (s.setPcg64LcgXslrr v).pcg32LcgXshrr = s.pcg32LcgXshrr := rfl
@[simp] theorem State.setPcg64LcgXslrr_pcg32LcgXshrs : (s.setPcg64LcgXslrr v).pcg32LcgXshrs = s.pcg32LcgXshrs := rfl
@[simp] theorem State.setPcg64LcgXslrr_pcg32McgXshrr : (s.setPcg64LcgXslrr v).pcg32McgXshrr = s.pcg32McgXshrr := rfl
@[simp] theorem State.setPcg64LcgXslrr_pcg32McgXshrs : (s.setPcg64LcgXslrr v).pcg32McgXshrs = s.pcg32McgXshrs := rfl
@[simp] theorem State.setPcg64LcgXslrr_pcg64LcgXslrr : (s.setPcg64LcgXslrr v).pcg64LcgXslrr = v := rfl
@[simp] theorem State.setPcg64LcgXslrr_pcg64McgXslrr : (s.setPcg64LcgXslrr v).pcg64McgXslrr = s.pcg64McgXslrr := rfl
@[simp] theorem State.setPcg64LcgXslrr_mt64 : (s.setPcg64LcgXslrr v).mt64 = s.mt64 := rfl
@[simp] theorem State.setPcg64LcgXslrr_faults : (s.setPcg64LcgXslrr v).faults = s.faults := rfl
@[simp] theorem State.setPcg64LcgXslrr_pending : (s.setPcg64LcgXslrr v).pending = s.pending := rfl
@[simp] theorem State.setPcg64LcgXslrr_responses : (s.setPcg64LcgXslrr v).responses = s.responses := rfl
@[simp] theorem State.setPcg64LcgXslrr_draws : (s.setPcg64LcgXslrr v).draws = s.draws := rfl
theorem State.setPcg64LcgXslrr_toBlock :
    (s.setPcg64LcgXslrr v).toBlock = { s.toBlock with pcg64LcgXslrr := v } := rfl

end setPcg64LcgXslrr

section setPcg64McgXslrr

variable (v : PcgEngine 128) (s : State)

@[simp] theorem State.setPcg64McgXslrr_xs32 : (s.setPcg64McgXslrr v).xs32 = s.xs32 := rfl
@[simp] theorem State.setPcg64McgXslrr_xs64 : (s.setPcg64McgXslrr v).xs64 = s.xs64 := rfl
@[simp] theorem State.setPcg64McgXslrr_xs128 : (s.setPcg64McgXslrr v).xs128 = s.xs128 := rfl
@[simp] theorem State.setPcg64McgXslrr_xs64s : (s.setPcg64McgXslrr v).xs64s = s.xs64s := rfl
@[simp] theorem State.setPcg64McgXslrr_xs1024s : (s.setPcg64McgXslrr v).xs1024s = s.xs1024s := rfl
@[simp] theorem State.setPcg64McgXslrr_pcg32LcgXshrr : (s.setPcg64McgXslrr v).pcg32LcgXshrr = s.pcg32LcgXshrr := rfl
@[simp] theorem State.setPcg64McgXslrr_pcg32LcgXshrs : (s.setPcg64McgXslrr v).pcg32LcgXshrs = s.pcg32LcgXshrs := rfl
@[simp] theorem State.setPcg64McgXslrr_pcg32McgXshrr : (s.setPcg64McgXslrr v).pcg32McgXshrr = s.pcg32McgXshrr := rfl
@[simp] theorem State.setPcg64McgXslrr_pcg32McgXshrs : (s.setPcg64McgXslrr v).pcg32McgXshrs = s.pcg32McgXshrs := rfl
@[simp] theorem State.setPcg64McgXslrr_pcg64LcgXslrr : (s.setPcg64McgXslrr v).pcg64LcgXslrr = s.pcg64LcgXslrr := rfl
@[simp] theorem State.setPcg64McgXslrr_pcg64McgXslrr : (s.setPcg64McgXslrr v).pcg64McgXslrr = v := rfl
@[simp] theorem State.setPcg64McgXslrr_mt64 : (s.setPcg64McgXslrr v).mt64 = s.mt64 := rfl
@[simp] theorem State.setPcg64McgXslrr_faults : (s.setPcg64McgXslrr v).faults = s.faults := rfl
@[simp] theorem State.setPcg64McgXslrr_pending : (s.setPcg64McgXslrr v).pending = s.pending := rfl
@[simp] theorem State.setPcg64McgXslrr_responses : (s.setPcg64McgXslrr v).responses = s.responses := rfl
@[simp] theorem State.setPcg64McgXslrr_draws : (s.setPcg64McgXslrr v).draws = s.draws := rfl
theorem State.setPcg64McgXslrr_toBlock :
    (s.setPcg64McgXslrr v).toBlock = { s.toBlock with pcg64McgXslrr := v } := rfl

end setPcg64McgXslrr

section setMt64

variable (v : Mt64Engine) (s : State)

@[simp] theorem State.setMt64_xs32 : (s.setMt64 v).xs32 = s.xs32 := rfl
@[simp] theorem State.setMt64_xs64 : (s.setMt64 v).xs64 = s.xs64 := rfl
@[simp] theorem State.setMt64_xs128 : (s.setMt64 v).xs128 = s.xs128 := rfl
@[simp] theorem State.setMt64_xs64s : (s.setMt64 v).xs64s = s.xs64s := rfl
@[simp] theorem State.setMt64_xs1024s : (s.setMt64 v).xs1024s = s.xs1024s := rfl
@[simp] theorem State.setMt64_pcg32LcgXshrr : (s.setMt64 v).pcg32LcgXshrr = s.pcg32LcgXshrr := rfl
@[simp] theorem State.setMt64_pcg32LcgXshrs : (s.setMt64 v).pcg32LcgXshrs = s.pcg32LcgXshrs := rfl
@[simp] theorem State.setMt64_pcg32McgXshrr : (s.setMt64 v).pcg32McgXshrr = s.pcg32McgXshrr := rfl
@[simp] theorem State.setMt64_pcg32McgXshrs : (s.setMt64 v).pcg32McgXshrs = s.pcg32McgXshrs := rfl
@[simp] theorem State.setMt64_pcg64LcgXslrr : (s.setMt64 v).pcg64LcgXslrr = s.pcg64LcgXslrr := rfl
@[simp] theorem State.setMt64_pcg64McgXslrr : (s.setMt64 v).pcg64McgXslrr = s.pcg64McgXslrr := rfl
@[simp] theorem State.setMt64_mt64 : (s.setMt64 v).mt64 = v := rfl
@[simp] theorem State.setMt64_faults : (s.setMt64 v).faults = s.faults := rfl
@[simp] theorem State.setMt64_pending : (s.setMt64 v).pending = s.pending := rfl
@[simp] theorem State.setMt64_responses : (s.setMt64 v).responses = s.responses := rfl
@[simp] theorem State.setMt64_draws : (s.setMt64 v).draws = s.draws := rfl
theorem State.setMt64_toBlock :
    (s.setMt64 v).toBlock = { s.toBlock with mt64 := v } := rfl

end setMt64

section setFaults

variable (v : FaultLog) (s : State)

@[simp] theorem State.setFaults_xs32 : (s.setFaults v).xs32 = s.xs32 := rfl
@[simp] theorem State.setFaults_xs64 : (s.setFaults v).xs64 = s.xs64 := rfl
@[simp] theorem State.setFaults_xs128 : (s.setFaults v).xs128 = s.xs128 := rfl
@[simp] theorem State.setFaults_xs64s : (s.setFaults v).xs64s = s.xs64s := rfl
@[simp] theorem State.setFaults_xs1024s : (s.setFaults v).xs1024s = s.xs1024s := rfl
@[simp] theorem State.setFaults_pcg32LcgXshrr : (s.setFaults v).pcg32LcgXshrr = s.pcg32LcgXshrr := rfl
@[simp] theorem State.setFaults_pcg32LcgXshrs : (s.setFaults v).pcg32LcgXshrs = s.pcg32LcgXshrs := rfl
@[simp] theorem State.setFaults_pcg32McgXshrr : (s.setFaults v).pcg32McgXshrr = s.pcg32McgXshrr := rfl
@[simp] theorem State.setFaults_pcg32McgXshrs : (s.setFaults v).pcg32McgXshrs = s.pcg32McgXshrs := rfl
@[simp] theorem State.setFaults_pcg64LcgXslrr : (s.setFaults v).pcg64LcgXslrr = s.pcg64LcgXslrr := rfl
@[simp] theorem State.setFaults_pcg64McgXslrr : (s.setFaults v).pcg64McgXslrr = s.pcg64McgXslrr := rfl
@[simp] theorem State.setFaults_mt64 : (s.setFaults v).mt64 = s.mt64 := rfl
@[simp] theorem State.setFaults_faults : (s.setFaults v).faults = v := rfl
@[simp] theorem State.setFaults_pending : (s.setFaults v).pending = s.pending := rfl
@[simp] theorem State.setFaults_responses : (s.setFaults v).responses = s.responses := rfl
@[simp] theorem State.setFaults_draws : (s.setFaults v).draws = s.draws := rfl
theorem State.setFaults_toBlock :
    (s.setFaults v).toBlock = { s.toBlock with faults := v } := rfl

end setFaults

section setPending

variable (v : List HostAction) (s : State)

@[simp] theorem State.setPending_xs32 : (s.setPending v).xs32 = s.xs32 := rfl
@[simp] theorem State.setPending_xs64 : (s.setPending v).xs64 = s.xs64 := rfl
@[simp] theorem State.setPending_xs128 : (s.setPending v).xs128 = s.xs128 := rfl
@[simp] theorem State.setPending_xs64s : (s.setPending v).xs64s = s.xs64s := rfl
@[simp] theorem State.setPending_xs1024s : (s.setPending v).xs1024s = s.xs1024s := rfl
@[simp] theorem State.setPending_pcg32LcgXshrr : (s.setPending v).pcg32LcgXshrr = s.pcg32LcgXshrr := rfl
@[simp] theorem State.setPending_pcg32LcgXshrs : (s.setPending v).pcg32LcgXshrs = s.pcg32LcgXshrs := rfl
@[simp] theorem State.setPending_pcg32McgXshrr : (s.setPending v).pcg32McgXshrr = s.pcg32McgXshrr := rfl
@[simp] theorem State.setPending_pcg32McgXshrs : (s.setPending v).pcg32McgXshrs = s.pcg32McgXshrs := rfl
@[simp] theorem State.setPending_pcg64LcgXslrr : (s.setPending v).pcg64LcgXslrr = s.pcg64LcgXslrr := rfl
@[simp] theorem State.setPending_pcg64McgXslrr : (s.setPending v).pcg64McgXslrr = s.pcg64McgXslrr := rfl
@[simp] theorem State.setPending_mt64 : (s.setPending v).mt64 = s.mt64 := rfl
@[simp] theorem State.setPending_faults : (s.setPending v).faults = s.faults := rfl
@[simp] theorem State.setPending_pending : (s.setPending v).pending = v := rfl
@[simp] theorem State.setPending_responses : (s.setPending v).responses = s.responses := rfl
@[simp] theorem State.setPending_draws : (s.setPending v).draws = s.draws := rfl
@[simp] theorem State.setPending_toBlock : (s.setPending v).toBlock = s.toBlock := rfl

end setPending

section setDraws

variable (v : Nat) (s : State)

@[simp] theorem State.setDraws_xs32 : (s.setDraws v).xs32 = s.xs32 := rfl
@[simp] theorem State.setDraws_xs64 : (s.setDraws v).xs64 = s.xs64 := rfl
@[simp] theorem State.setDraws_xs128 : (s.setDraws v).xs128 = s.xs128 := rfl
@[simp] theorem State.setDraws_xs64s : (s.setDraws v).xs64s = s.xs64s := rfl
@[simp] theorem State.setDraws_xs1024s : (s.setDraws v).xs1024s = s.xs1024s := rfl
@[simp] theorem State.setDraws_pcg32LcgXshrr : (s.setDraws v).pcg32LcgXshrr = s.pcg32LcgXshrr := rfl
@[simp] theorem State.setDraws_pcg32LcgXshrs : (s.setDraws v).pcg32LcgXshrs = s.pcg32LcgXshrs := rfl
@[simp] theorem State.setDraws_pcg32McgXshrr : (s.setDraws v).pcg32McgXshrr = s.pcg32McgXshrr := rfl
@[simp] theorem State.setDraws_pcg32McgXshrs : (s.setDraws v).pcg32McgXshrs = s.pcg32McgXshrs := rfl
@[simp] theorem State.setDraws_pcg64LcgXslrr : (s.setDraws v).pcg64LcgXslrr = s.pcg64LcgXslrr := rfl
@[simp] theorem State.setDraws_pcg64McgXslrr : (s.setDraws v).pcg64McgXslrr = s.pcg64McgXslrr := rfl
@[simp] theorem State.setDraws_mt64 : (s.setDraws v).mt64 = s.mt64 := rfl
@[simp] theorem State.setDraws_faults : (s.setDraws v).faults = s.faults := rfl
@[simp] theorem State.setDraws_pending : (s.setDraws v).pending = s.pending := rfl
@[simp] theorem State.setDraws_responses : (s.setDraws v).responses = s.responses := rfl
@[simp] theorem State.setDraws_draws : (s.setDraws v).draws = v := rfl
@[simp] theorem State.setDraws_toBlock : (s.setDraws v).toBlock = s.toBlock := rfl

end setDraws

section respond

variable (c : BitVec 4) (r : List U64) (s : State)

@[simp] theorem State.respond_xs32 : (s.respond c r).xs32 = s.xs32 := rfl
@[simp] theorem State.respond_xs64 : (s.respond c r).xs64 = s.xs64 := rfl
@[simp] theorem State.respond_xs128 : (s.respond c r).xs128 = s.xs128 := rfl
@[simp] theorem State.respond_xs64s : (s.respond c r).xs64s = s.xs64s := rfl
@[simp] theorem State.respond_xs1024s : (s.respond c r).xs1024s = s.xs1024s := rfl
@[simp] theorem State.respond_pcg32LcgXshrr : (s.respond c r).pcg32LcgXshrr = s.pcg32LcgXshrr := rfl
@[simp] theorem State.respond_pcg32LcgXshrs : (s.respond c r).pcg32LcgXshrs = s.pcg32LcgXshrs := rfl
@[simp] theorem State.respond_pcg32McgXshrr : (s.respond c r).pcg32McgXshrr = s.pcg32McgXshrr := rfl
@[simp] theorem State.respond_pcg32McgXshrs : (s.respond c r).pcg32McgXshrs = s.pcg32McgXshrs := rfl
@[simp] theorem State.respond_pcg64LcgXslrr : (s.respond c r).pcg64LcgXslrr = s.pcg64LcgXslrr := rfl
@[simp] theorem State.respond_pcg64McgXslrr : (s.respond c r).pcg64McgXslrr = s.pcg64McgXslrr := rfl
@[simp] theorem State.respond_mt64 : (s.respond c r).mt64 = s.mt64 := rfl
@[simp] theorem State.respond_faults : (s.respond c r).faults = s.faults := rfl
@[simp] theorem State.respond_pending : (s.respond c r).pending = s.pending := rfl
@[simp] theorem State.respond_responses : (s.respond c r).responses = s.responses ++ [⟨c, r⟩] := rfl
@[simp] theorem State.respond_draws : (s.respond c r).draws = s.draws := rfl
@[simp] theorem State.respond_toBlock : (s.respond c r).toBlock = s.toBlock := rfl

end respond

section reset

variable (s : State)

theorem resetBlock_xs32 : (resetBlock s).xs32 = Block.reset.xs32 := rfl
theorem resetBlock_xs64 : (resetBlock s).xs64 = Block.reset.xs64 := rfl
theorem resetBlock_xs128 : (resetBlock s).xs128 = Block.reset.xs128 := rfl
theorem resetBlock_xs64s : (resetBlock s).xs64s = Block.reset.xs64s := rfl
theorem resetBlock_xs1024s : (resetBlock s).xs1024s = Block.reset.xs1024s := rfl
theorem resetBlock_pcg32LcgXshrr : (resetBlock s).pcg32LcgXshrr = Block.reset.pcg32LcgXshrr := rfl
theorem resetBlock_pcg32LcgXshrs : (resetBlock s).pcg32LcgXshrs = Block.reset.pcg32LcgXshrs := rfl
theorem resetBlock_pcg32McgXshrr : (resetBlock s).pcg32McgXshrr = Block.reset.pcg32McgXshrr := rfl
theorem resetBlock_pcg32McgXshrs : (resetBlock s).pcg32McgXshrs = Block.reset.pcg32McgXshrs := rfl
theorem resetBlock_pcg64LcgXslrr : (resetBlock s).pcg64LcgXslrr = Block.reset.pcg64LcgXslrr := rfl
theorem resetBlock_pcg64McgXslrr : (resetBlock s).pcg64McgXslrr = Block.reset.pcg64McgXslrr := rfl
theorem resetBlock_mt64 : (resetBlock s).mt64 = Block.reset.mt64 := rfl
theorem resetBlock_faults : (resetBlock s).faults = Block.reset.faults := rfl
@[simp] theorem resetBlock_pending : (resetBlock s).pending = s.pending := rfl
@[simp] theorem resetBlock_responses : (resetBlock s).responses = s.responses := rfl
@[simp] theorem resetBlock_draws : (resetBlock s).draws = s.draws := rfl
@[simp] theorem resetBlock_toBlock : (resetBlock s).toBlock = Block.reset := rfl

end reset

section fault

variable (c : Cause) (s : State)

@[simp] theorem takeFault_xs32 : (takeFault c s).xs32 = s.xs32 := rfl
@[simp] theorem takeFault_xs64 : (takeFault c s).xs64 = s.xs64 := rfl
@[simp] theorem takeFault_xs128 : (takeFault c s).xs128 = s.xs128 := rfl
@[simp] theorem takeFault_xs64s : (takeFault c s).xs64s = s.xs64s := rfl
@[simp] theorem takeFault_xs1024s : (takeFault c s).xs1024s = s.xs1024s := rfl
@[simp] theorem takeFault_pcg32LcgXshrr : (takeFault c s).pcg32LcgXshrr = s.pcg32LcgXshrr := rfl
@[simp] theorem takeFault_pcg32LcgXshrs : (takeFault c s).pcg32LcgXshrs = s.pcg32LcgXshrs := rfl
@[simp] theorem takeFault_pcg32McgXshrr : (takeFault c s).pcg32McgXshrr = s.pcg32McgXshrr := rfl
@[simp] theorem takeFault_pcg32McgXshrs : (takeFault c s).pcg32McgXshrs = s.pcg32McgXshrs := rfl
@[simp] theorem takeFault_pcg64LcgXslrr : (takeFault c s).pcg64LcgXslrr = s.pcg64LcgXslrr := rfl
@[simp] theorem takeFault_pcg64McgXslrr : (takeFault c s).pcg64McgXslrr = s.pcg64McgXslrr := rfl
@[simp] theorem takeFault_mt64 : (takeFault c s).mt64 = s.mt64 := rfl
@[simp] theorem takeFault_faults : (takeFault c s).faults = recordFault c s.faults := rfl
@[simp] theorem takeFault_pending : (takeFault c s).pending = s.pending := rfl
@[simp] theorem takeFault_responses : (takeFault c s).responses = s.responses ++ [⟨causeCode c, []⟩] := rfl
@[simp] theorem takeFault_draws : (takeFault c s).draws = s.draws := rfl
theorem takeFault_toBlock :
    (takeFault c s).toBlock = { s.toBlock with faults := recordFault c s.faults } := rfl

end fault

end Sys2Proof.Machine
end

