-- ==== Sys2Proof/Laws/Ops.lean ====
section
/-! SUPPORT. What each shared operation of Sys2Proof/Machine/Ops.lean can do, said once: the repetition of a step
procedure, the packing of reals, a generation command up to its results, the host's next action. -/

namespace Sys2Proof.Machine

/-! ### drawN -/

section draw

variable {α : Type} (next : State → α × State)

@[simp] theorem drawN_zero (s : State) : drawN next 0 s = ([], s) := rfl

theorem drawN_succ (n : Nat) (s : State) :
    drawN next (n + 1) s = ((next s).1 :: (drawN next n (next s).2).1, (drawN next n (next s).2).2) := rfl

@[simp] theorem drawN_one (s : State) : drawN next 1 s = ([(next s).1], (next s).2) := rfl

@[simp] theorem drawN_length (n : Nat) (s : State) : (drawN next n s).1.length = n := by
  induction n generalizing s with
  | zero => rfl
  | succ n ih => simp [drawN_succ, ih]

theorem drawN_add (m n : Nat) (s : State) :
    drawN next (m + n) s =
      ((drawN next m s).1 ++ (drawN next n (drawN next m s).2).1, (drawN next n (drawN next m s).2).2) := by
  induction m generalizing s with
  | zero => simp
  | succ m ih => rw [Nat.succ_add, drawN_succ, ih, drawN_succ]; simp

/-- What every call keeps, the repetition keeps. -/
theorem drawN_keeps {P : State → Prop} (h : ∀ s, P s → P (next s).2) (n : Nat) (s : State) (hs : P s) :
    P (drawN next n s).2 := by
  induction n generalizing s with
  | zero => exact hs
  | succ n ih => exact ih _ (h _ hs)

end draw

/-! ### A step procedure on one engine's registers -/

/-- `n` calls of a step on a value of its own: the outputs in order and the last value. -/
def runN {σ α : Type} (step : σ → α × σ) : Nat → σ → List α × σ
  | 0, e => ([], e)
  | n + 1, e => ((step e).1 :: (runN step n (step e).2).1, (runN step n (step e).2).2)

section run

variable {σ α : Type} (step : σ → α × σ)

@[simp] theorem runN_zero (e : σ) : runN step 0 e = ([], e) := rfl

theorem runN_succ (n : Nat) (e : σ) :
    runN step (n + 1) e = ((step e).1 :: (runN step n (step e).2).1, (runN step n (step e).2).2) := rfl

@[simp] theorem runN_length (n : Nat) (e : σ) : (runN step n e).1.length = n := by
  induction n generalizing e with
  | zero => rfl
  | succ n ih => simp [runN_succ, ih]

theorem runN_keeps {P : σ → Prop} (h : ∀ e, P e → P (step e).2) (n : Nat) (e : σ) (he : P e) :
    P (runN step n e).2 := by
  induction n generalizing e with
  | zero => exact he
  | succ n ih => exact ih _ (h _ he)

/-- A step procedure that reads and writes one engine only draws as its step on that engine's registers does,
and writes nothing else. -/
theorem drawN_local {next : State → α × State} {get : State → σ} {put : σ → State → State}
    (hnext : ∀ s, next s = ((step (get s)).1, put (step (get s)).2 s)) (hget : ∀ v s, get (put v s) = v)
    (hput : ∀ u v s, put u (put v s) = put u s) (hself : ∀ s, put (get s) s = s) (n : Nat) (s : State) :
    drawN next n s = ((runN step n (get s)).1, put (runN step n (get s)).2 s) := by
  induction n generalizing s with
  | zero => simp [hself]
  | succ n ih => simp [drawN_succ, runN_succ, ih, hnext, hget, hput]

end run

/-! ### packReals -/

@[simp] theorem packReals_nil (k : Nat) : packReals [] k = ([], k) := rfl

theorem packReals_some (u : U64) (l : List (Option U64)) (k : Nat) :
    packReals (some u :: l) k = (u :: (packReals l k).1, (packReals l k).2) := rfl

theorem packReals_none (l : List (Option U64)) (k : Nat) :
    packReals (none :: l) k = (quietNaN (Config.freeNaN k) :: (packReals l (k + 1)).1, (packReals l (k + 1)).2) := rfl

@[simp] theorem packReals_length (l : List (Option U64)) (k : Nat) : (packReals l k).1.length = l.length := by
  induction l generalizing k with
  | nil => rfl
  | cons a l ih => cases a <;> simp [packReals_some, packReals_none, ih]

theorem packReals_append (l r : List (Option U64)) (k : Nat) :
    packReals (l ++ r) k =
      ((packReals l k).1 ++ (packReals r (packReals l k).2).1, (packReals r (packReals l k).2).2) := by
  induction l generalizing k with
  | nil => simp
  | cons a l ih => cases a <;> simp [packReals_some, packReals_none, ih]

/-- Reals that are no NaN are packed as they are, and nothing is drawn. -/
theorem packReals_map_some (l : List U64) (k : Nat) : packReals (l.map some) k = (l, k) := by
  induction l with
  | nil => rfl
  | cons u l ih => simp [packReals_some, ih]

/-- The packed word at a place: the real there, or a quiet NaN of some draw. -/
theorem packReals_getElem (l : List (Option U64)) (k i : Nat) (h : i < l.length) :
    ∃ j, (packReals l k).1[i]? = some ((l[i]).getD (quietNaN (Config.freeNaN j))) := by
  induction l generalizing k i with
  | nil => simp at h
  | cons a l ih =>
    cases i with
    | zero => cases a with
      | none => exact ⟨k, by simp [packReals_none]⟩
      | some u => exact ⟨k, by simp [packReals_some]⟩
    | succ i =>
      have h' : i < l.length := by simpa using h
      cases a with
      | none => obtain ⟨j, hj⟩ := ih (k + 1) i h'; exact ⟨j, by simpa [packReals_none] using hj⟩
      | some u => obtain ⟨j, hj⟩ := ih k i h'; exact ⟨j, by simpa [packReals_some] using hj⟩

/-! ### Generation -/

section gen

variable {α : Type} {e : Engine} {next : State → α × State} {rep : Repeat} {s : State}
  {finish : List α → State → Host.Outcome State Fault Refusal}

theorem generate_of_seeded (h : seeded s.toBlock e = true) :
    generate e next rep finish s =
      finish (drawN next (repeatCount rep) s).1 (drawN next (repeatCount rep) s).2 := by
  simp [generate, h]

theorem generate_of_unseeded (h : seeded s.toBlock e = false) :
    generate e next rep finish s = .next (takeFault .unseeded s) := by
  simp [generate, h, raise]

end gen

/-- What a GEN command's end answers. -/
theorem finishRaw_eq {w : Nat} (vs : List (BitVec w)) (s : State) :
    finishRaw vs s = .next (s.respond 0#4 (vs.flatMap emitWords)) := rfl

/-- What a real command's end answers. -/
theorem finishReal_eq {w : Nat} (conv : BitVec w → Option U64) (vs : List (BitVec w)) (s : State) :
    finishReal conv vs s =
      .next ((s.setDraws (packReals (vs.map conv) s.draws).2).respond 0#4 (packReals (vs.map conv) s.draws).1) := rfl

/-! ### emitWords -/

@[simp] theorem emitWords_32 (v : U32) : emitWords v = [v.setWidth 64] := rfl

@[simp] theorem emitWords_64 (v : U64) : emitWords v = [v] := by simp [emitWords]

@[simp] theorem emitWords_128 (v : U128) : emitWords v = [v.extractLsb' 64 64, v.extractLsb' 0 64] := rfl

/-! ### takeAction -/

theorem takeAction_nil {s : State} (h : s.pending = []) : takeAction s = (none, s) := by
  simp [takeAction, h]

theorem takeAction_cons {s : State} {a : HostAction} {l : List HostAction} (h : s.pending = a :: l) :
    takeAction s = (some a, s.setPending l) := by
  simp [takeAction, h]

end Sys2Proof.Machine
end

