-- ==== Sys2Proof/Laws/Exec.lean ====
section
/-! SUPPORT. The 48 generation commands seen uniformly: each engine's registers as one value, its step on that
value, and what GEN, GENR, GENRC and GENRR of any engine answer. -/

namespace Sys2Proof.Laws

open Sys2Proof.Machine Sys2Proof.Safety

/-- The type of an engine's state. -/
abbrev EngineState : Engine → Type
  | .xs32 => XsEngine 32
  | .xs64 => XsEngine 64
  | .xs128 => Xs128Engine
  | .xs64s => XsEngine 64
  | .xs1024s => Xs1024sEngine
  | .pcg32LcgXshrr => PcgEngine 64
  | .pcg32LcgXshrs => PcgEngine 64
  | .pcg32McgXshrr => PcgEngine 64
  | .pcg32McgXshrs => PcgEngine 64
  | .pcg64LcgXslrr => PcgEngine 128
  | .pcg64McgXslrr => PcgEngine 128
  | .mt64 => Mt64Engine

/-- An engine's state in a block. -/
def getEngine : (e : Engine) → Block → EngineState e
  | .xs32, b => b.xs32
  | .xs64, b => b.xs64
  | .xs128, b => b.xs128
  | .xs64s, b => b.xs64s
  | .xs1024s, b => b.xs1024s
  | .pcg32LcgXshrr, b => b.pcg32LcgXshrr
  | .pcg32LcgXshrs, b => b.pcg32LcgXshrs
  | .pcg32McgXshrr, b => b.pcg32McgXshrr
  | .pcg32McgXshrs, b => b.pcg32McgXshrs
  | .pcg64LcgXslrr, b => b.pcg64LcgXslrr
  | .pcg64McgXslrr, b => b.pcg64McgXslrr
  | .mt64, b => b.mt64

/-- The state with an engine's state replaced. -/
def putEngine : (e : Engine) → EngineState e → State → State
  | .xs32, v, s => s.setXs32 v
  | .xs64, v, s => s.setXs64 v
  | .xs128, v, s => s.setXs128 v
  | .xs64s, v, s => s.setXs64s v
  | .xs1024s, v, s => s.setXs1024s v
  | .pcg32LcgXshrr, v, s => s.setPcg32LcgXshrr v
  | .pcg32LcgXshrs, v, s => s.setPcg32LcgXshrs v
  | .pcg32McgXshrr, v, s => s.setPcg32McgXshrr v
  | .pcg32McgXshrs, v, s => s.setPcg32McgXshrs v
  | .pcg64LcgXslrr, v, s => s.setPcg64LcgXslrr v
  | .pcg64McgXslrr, v, s => s.setPcg64McgXslrr v
  | .mt64, v, s => s.setMt64 v

/-- One call of an engine's step procedure on its own state. -/
def stepEngine : (e : Engine) → EngineState e → BitVec (width e) × EngineState e
  | .xs32, v => (xs32Step params v.x, { v with x := xs32Step params v.x })
  | .xs64, v => (xs64Step params v.x, { v with x := xs64Step params v.x })
  | .xs128, v => (xs128Word (xs128Step params v), xs128Step params v)
  | .xs64s, v => (xs64sStep params v.x * params.xs64sMult, { v with x := xs64sStep params v.x })
  | .xs1024s, v => (ringGet (xs1024sStep params v).s (xs1024sStep params v).p * params.xs1024sMult, xs1024sStep params v)
  | .pcg32LcgXshrr, v => (xshRr params v.st, { v with st := advance64 params true v.st })
  | .pcg32LcgXshrs, v => (xshRs params v.st, { v with st := advance64 params true v.st })
  | .pcg32McgXshrr, v => (xshRr params v.st, { v with st := advance64 params false v.st })
  | .pcg32McgXshrs, v => (xshRs params v.st, { v with st := advance64 params false v.st })
  | .pcg64LcgXslrr, v => (xslRr params v.st, { v with st := advance128 params true v.st })
  | .pcg64McgXslrr, v => (xslRr params v.st, { v with st := advance128 params false v.st })
  | .mt64, v => (mtTemper params (mtGet (mtReady params v).mt (mtReady params v).idx.toNat),
      { mtReady params v with idx := (mtReady params v).idx + 1#9 })

/-- An engine's step procedure on the machine's state. -/
def nextOf : (e : Engine) → State → BitVec (width e) × State
  | .xs32 => xs32Next
  | .xs64 => xs64Next
  | .xs128 => xs128Next
  | .xs64s => xs64sNext
  | .xs1024s => xs1024sNext
  | .pcg32LcgXshrr => pcg32LcgXshrrNext
  | .pcg32LcgXshrs => pcg32LcgXshrsNext
  | .pcg32McgXshrr => pcg32McgXshrrNext
  | .pcg32McgXshrs => pcg32McgXshrsNext
  | .pcg64LcgXslrr => pcg64LcgXslrrNext
  | .pcg64McgXslrr => pcg64McgXslrrNext
  | .mt64 => mt64Next

/-- The assertion of MT_Next around a generation command, for MT64 alone (42_mt64.md R206). -/
def asserted (e : Engine) (s : State) (k : Host.Outcome State Fault Refusal) : Host.Outcome State Fault Refusal :=
  if e = .mt64 then mtAsserted s k else k

/-! ### The state of an engine in the state of the machine -/

@[simp] theorem getEngine_putEngine (e : Engine) (v : EngineState e) (s : State) :
    getEngine e (putEngine e v s).toBlock = v := by cases e <;> rfl

@[simp] theorem putEngine_putEngine (e : Engine) (u v : EngineState e) (s : State) :
    putEngine e u (putEngine e v s) = putEngine e u s := by cases e <;> rfl

@[simp] theorem putEngine_getEngine (e : Engine) (s : State) : putEngine e (getEngine e s.toBlock) s = s := by
  cases e <;> rfl

@[simp] theorem putEngine_faults (e : Engine) (v : EngineState e) (s : State) : (putEngine e v s).faults = s.faults := by
  cases e <;> rfl

@[simp] theorem putEngine_pending (e : Engine) (v : EngineState e) (s : State) : (putEngine e v s).pending = s.pending := by
  cases e <;> rfl

@[simp] theorem putEngine_responses (e : Engine) (v : EngineState e) (s : State) :
    (putEngine e v s).responses = s.responses := by cases e <;> rfl

@[simp] theorem putEngine_draws (e : Engine) (v : EngineState e) (s : State) : (putEngine e v s).draws = s.draws := by
  cases e <;> rfl

/-- Writing one engine leaves every other engine. -/
theorem sameOthers_putEngine (e : Engine) (v : EngineState e) (s : State) :
    sameOthers e (putEngine e v s).toBlock s.toBlock := by
  intro e' h
  cases e <;> cases e' <;> first | exact absurd rfl h | rfl

theorem sameEngine_iff (e : Engine) (a b : Block) : sameEngine e a b ↔ getEngine e a = getEngine e b := by
  cases e <;> rfl

/-- A step procedure reads and writes its own engine only (20_memory.md R60). -/
theorem nextOf_eq (e : Engine) (s : State) :
    nextOf e s = ((stepEngine e (getEngine e s.toBlock)).1, putEngine e (stepEngine e (getEngine e s.toBlock)).2 s) := by
  cases e <;> rfl

/-- Repeated, too. -/
theorem drawN_nextOf (e : Engine) (n : Nat) (s : State) :
    drawN (nextOf e) n s =
      ((runN (stepEngine e) n (getEngine e s.toBlock)).1,
        putEngine e (runN (stepEngine e) n (getEngine e s.toBlock)).2 s) :=
  drawN_local (get := fun s => getEngine e s.toBlock) (put := putEngine e) (stepEngine e) (nextOf_eq e)
    (getEngine_putEngine e) (putEngine_putEngine e) (putEngine_getEngine e) n s

/-- SEEDED of an engine's own state (10_state.md R32). -/
def engineSeeded : (e : Engine) → EngineState e → Bool
  | .xs32, v => v.seeded
  | .xs64, v => v.seeded
  | .xs128, v => v.seeded
  | .xs64s, v => v.seeded
  | .xs1024s, v => v.seeded
  | .pcg32LcgXshrr, v => v.seeded
  | .pcg32LcgXshrs, v => v.seeded
  | .pcg32McgXshrr, v => v.seeded
  | .pcg32McgXshrs, v => v.seeded
  | .pcg64LcgXslrr, v => v.seeded
  | .pcg64McgXslrr, v => v.seeded
  | .mt64, v => decide (v.idx.toNat ≠ params.mtSentinel)

theorem seeded_eq (b : Block) (e : Engine) : seeded b e = engineSeeded e (getEngine e b) := by cases e <;> rfl

@[simp] theorem seeded_putEngine (e : Engine) (v : EngineState e) (s : State) :
    seeded (putEngine e v s).toBlock e = engineSeeded e v := by rw [seeded_eq, getEngine_putEngine]

theorem engineSeeded_pcg64 (v : PcgEngine 64) (x : U64) :
    engineSeeded .pcg32LcgXshrr { v with st := x } = v.seeded := rfl

theorem engineSeeded_pcg128 (v : PcgEngine 128) (x : U128) :
    engineSeeded .pcg64LcgXslrr { v with st := x } = v.seeded := rfl

/-- A step keeps the seeded flag of every engine but MT64, whose flag is its cursor. -/
theorem engineSeeded_step {e : Engine} (h : e ≠ .mt64) (v : EngineState e) :
    engineSeeded e (stepEngine e v).2 = engineSeeded e v := by
  cases e
  case mt64 => exact absurd rfl h
  case pcg32LcgXshrr =>
    exact (congrArg (engineSeeded .pcg32LcgXshrr) (show (stepEngine .pcg32LcgXshrr v).2 = { v with st := advance64 params true v.st } from rfl)).trans
      (engineSeeded_pcg64 v _)
  case pcg32LcgXshrs =>
    exact (congrArg (engineSeeded .pcg32LcgXshrs) (show (stepEngine .pcg32LcgXshrs v).2 = { v with st := advance64 params true v.st } from rfl)).trans
      (engineSeeded_pcg64 v _)
  case pcg32McgXshrr =>
    exact (congrArg (engineSeeded .pcg32McgXshrr) (show (stepEngine .pcg32McgXshrr v).2 = { v with st := advance64 params false v.st } from rfl)).trans
      (engineSeeded_pcg64 v _)
  case pcg32McgXshrs =>
    exact (congrArg (engineSeeded .pcg32McgXshrs) (show (stepEngine .pcg32McgXshrs v).2 = { v with st := advance64 params false v.st } from rfl)).trans
      (engineSeeded_pcg64 v _)
  case pcg64LcgXslrr =>
    exact (congrArg (engineSeeded .pcg64LcgXslrr) (show (stepEngine .pcg64LcgXslrr v).2 = { v with st := advance128 params true v.st } from rfl)).trans
      (engineSeeded_pcg128 v _)
  case pcg64McgXslrr =>
    exact (congrArg (engineSeeded .pcg64McgXslrr) (show (stepEngine .pcg64McgXslrr v).2 = { v with st := advance128 params false v.st } from rfl)).trans
      (engineSeeded_pcg128 v _)
  all_goals rfl

/-- Whether an engine is seeded is a matter of its own state (10_state.md R32). -/
theorem seeded_congr {e : Engine} {a b : Block} (h : getEngine e a = getEngine e b) : seeded a e = seeded b e := by
  cases e <;> simp_all [getEngine, seeded]

/-! ### The four generation commands of an engine -/

theorem exec_buildGen (rep : Repeat) (e : Engine) (s : State) :
    exec (buildGen rep e) s = asserted e s (generate e (nextOf e) rep finishRaw s) := by
  cases e <;> rfl

theorem exec_buildGenr (rep : Repeat) (e : Engine) (s : State) :
    exec (buildGenr rep e) s = asserted e s (generate e (nextOf e) rep (finishReal (realOpen params)) s) := by
  cases e <;> rfl

theorem exec_buildGenrc (rep : Repeat) (e : Engine) (s : State) :
    exec (buildGenrc rep e) s = asserted e s (generate e (nextOf e) rep (finishReal (realClosed params)) s) := by
  cases e <;> rfl

theorem exec_buildGenrr (rep : Repeat) (lo hi : U64) (e : Engine) (s : State) :
    exec (buildGenrr rep lo hi e) s =
      asserted e s (generate e (nextOf e) rep (finishReal (realRange params lo hi)) s) := by
  cases e <;> rfl

/-- A generation command is one of the four commands of its engine. -/
theorem generation_cases {i : Instr} {e : Engine} {rep : Repeat} (h : generation i = some (e, rep)) :
    i = buildGen rep e ∨ i = buildGenr rep e ∨ i = buildGenrc rep e ∨ ∃ lo hi, i = buildGenrr rep lo hi e := by
  cases i <;> simp only [generation, reduceCtorEq, Option.some.injEq, Prod.mk.injEq] at h <;>
    obtain ⟨rfl, rfl⟩ := h <;> simp [buildGen, buildGenr, buildGenrc, buildGenrr]

/-! ### What a command can do, said once -/

/-- The results and the next draw number of a generation command, from its raw values: what GEN, GENR, GENRC and
GENRR do to them (30_encoding.md R73, 43_real.md R257). -/
abbrev Finish (e : Engine) : Type := List (BitVec (width e)) → Nat → List U64 × Nat

/-- GEN's. -/
def rawFinish (e : Engine) : Finish e := fun vs k => (vs.flatMap emitWords, k)

/-- GENR's, GENRC's and GENRR's. -/
def realFinish (e : Engine) (conv : BitVec (width e) → Option U64) : Finish e := fun vs k => packReals (vs.map conv) k

/-- The state a generation command leaves where its engine is seeded, and its response. -/
def generated (e : Engine) (n : Nat) (fin : Finish e) (s : State) : State :=
  ((putEngine e (runN (stepEngine e) n (getEngine e s.toBlock)).2 s).setDraws
    (fin (runN (stepEngine e) n (getEngine e s.toBlock)).1 s.draws).2).respond 0#4
    (fin (runN (stepEngine e) n (getEngine e s.toBlock)).1 s.draws).1

/-- A generation command with a given way to finish, on any state. -/
def generationOutcome (e : Engine) (n : Nat) (fin : Finish e) (s : State) : Host.Outcome State Fault Refusal :=
  asserted e s (if seeded s.toBlock e then .next (generated e n fin s) else .next (takeFault .unseeded s))

theorem generate_raw (e : Engine) (rep : Repeat) (s : State) :
    generate e (nextOf e) rep finishRaw s =
      if seeded s.toBlock e then .next (generated e (repeatCount rep) (rawFinish e) s)
      else .next (takeFault .unseeded s) := by
  unfold generate
  split
  · simp only [drawN_nextOf, finishRaw_eq, generated, rawFinish]
    congr 1
    cases e <;> rfl
  · rfl

theorem generate_real (e : Engine) (rep : Repeat) (conv : BitVec (width e) → Option U64) (s : State) :
    generate e (nextOf e) rep (finishReal conv) s =
      if seeded s.toBlock e then .next (generated e (repeatCount rep) (realFinish e conv) s)
      else .next (takeFault .unseeded s) := by
  unfold generate
  split
  · simp only [drawN_nextOf, finishReal_eq, generated, realFinish, putEngine_draws]
  · rfl

theorem exec_gen (rep : Repeat) (e : Engine) (s : State) :
    exec (buildGen rep e) s = generationOutcome e (repeatCount rep) (rawFinish e) s := by
  rw [exec_buildGen, generate_raw]; rfl

theorem exec_genr (rep : Repeat) (e : Engine) (s : State) :
    exec (buildGenr rep e) s = generationOutcome e (repeatCount rep) (realFinish e (realOpen params)) s := by
  rw [exec_buildGenr, generate_real]; rfl

theorem exec_genrc (rep : Repeat) (e : Engine) (s : State) :
    exec (buildGenrc rep e) s = generationOutcome e (repeatCount rep) (realFinish e (realClosed params)) s := by
  rw [exec_buildGenrc, generate_real]; rfl

theorem exec_genrr (rep : Repeat) (lo hi : U64) (e : Engine) (s : State) :
    exec (buildGenrr rep lo hi e) s =
      generationOutcome e (repeatCount rep) (realFinish e (realRange params lo hi)) s := by
  rw [exec_buildGenrr, generate_real]; rfl

/-- Every generation command, whatever its state: N calls of its engine's step, then one of the finishes. -/
theorem exec_generation {i : Instr} {e : Engine} {rep : Repeat} (h : generation i = some (e, rep)) :
    ∃ fin : Finish e, (∀ s, exec i s = generationOutcome e (repeatCount rep) fin s) ∧
      (fin = rawFinish e ∨ ∃ conv, fin = realFinish e conv) := by
  rcases generation_cases h with rfl | rfl | rfl | ⟨lo, hi, rfl⟩
  · exact ⟨_, exec_gen rep e, .inl rfl⟩
  · exact ⟨_, exec_genr rep e, .inr ⟨_, rfl⟩⟩
  · exact ⟨_, exec_genrc rep e, .inr ⟨_, rfl⟩⟩
  · exact ⟨_, exec_genrr rep lo hi e, .inr ⟨_, rfl⟩⟩

/-- Every seeding command, whatever its state: it puts a seeded value that depends on its operands alone, or always
faults, or is always refused. -/
theorem exec_seeding {i : Instr} {e : Engine} (h : seeding i = some e) :
    (∃ v : EngineState e, (∀ s, exec i s = complete [] (putEngine e v s)) ∧
        ∀ s, seeded (putEngine e v s).toBlock e = true) ∨
      (∃ c, (c = .emptyKey ∨ c = .badKeyLength) ∧ ∀ s, exec i s = .next (takeFault c s)) ∨
      ∀ s, exec i s = .refused .keyTooLong := by
  cases i
  case seedaXs1024s key =>
    cases h
    by_cases h1 : params.mtMaxKeyLen < key.length
    · exact .inr (.inr fun s => by simp [exec, execSeedaXs1024s, h1])
    · by_cases h2 : key.length = 16
      · exact .inl ⟨_, fun s => by simp only [exec, execSeedaXs1024s, h2, ↓reduceDIte]; rfl,
          fun s => rfl⟩
      · exact .inr (.inl ⟨.badKeyLength, .inr rfl, fun s => by simp [exec, execSeedaXs1024s, h1, h2, raise]⟩)
  case seedaMt64 key =>
    cases h
    by_cases h1 : params.mtMaxKeyLen < key.length
    · exact .inr (.inr fun s => by simp [exec, execSeedaMt64, h1])
    · by_cases h2 : key.length = 0
      · exact .inr (.inl ⟨.emptyKey, .inl rfl, fun s => by simp only [exec, execSeedaMt64, h2, ↓reduceIte]; rfl⟩)
      · exact .inl ⟨⟨mtInitByArray params key, BitVec.ofNat 9 params.mtN⟩,
          fun s => by simp only [exec, execSeedaMt64, h1, h2, ↓reduceIte]; rfl, fun s => rfl⟩
  all_goals first
    | (cases h; done)
    | (cases h; exact .inl ⟨_, fun s => rfl, fun s => rfl⟩)

/-- What taking a fault leaves (60_exceptions.md R344). -/
theorem takeFault_faulted (c : Cause) (s : State) : Faulted (causeCode c) s (takeFault c s) :=
  ⟨rfl, rfl, fun e => by cases e <;> rfl, rfl, rfl⟩

/-- No fault touches a seeded flag. -/
@[simp] theorem seeded_takeFault (c : Cause) (s : State) (e : Engine) :
    seeded (takeFault c s).toBlock e = seeded s.toBlock e := by cases e <;> rfl

/-- Returning a response touches no seeded flag. -/
@[simp] theorem seeded_respond (st : BitVec 4) (ws : List U64) (s : State) (e : Engine) :
    seeded (s.respond st ws).toBlock e = seeded s.toBlock e := by cases e <;> rfl

/-- Drawing touches no seeded flag. -/
@[simp] theorem seeded_setDraws (k : Nat) (s : State) (e : Engine) :
    seeded (s.setDraws k).toBlock e = seeded s.toBlock e := by cases e <;> rfl

/-- Writing one engine touches no other's seeded flag. -/
theorem seeded_putEngine_of_ne {e e' : Engine} (h : e' ≠ e) (v : EngineState e) (s : State) :
    seeded (putEngine e v s).toBlock e' = seeded s.toBlock e' :=
  seeded_congr ((sameEngine_iff e' _ _).1 (sameOthers_putEngine e v s e' h))

/-- What a command that puts an engine and completes leaves. -/
theorem putEngine_completed (e : Engine) (v : EngineState e) (s : State) (ws : List U64) :
    Completed ws e s ((putEngine e v s).respond 0#4 ws) :=
  ⟨by simp [State.respond], fun e' h => by
    have := sameOthers_putEngine e v s e' h
    cases e <;> cases e' <;> exact this, by cases e <;> rfl, by cases e <;> rfl⟩

/-- A generation command that generates completes with its results. -/
theorem generated_completed (e : Engine) (n : Nat) (fin : Finish e) (s : State) :
    Completed (fin (runN (stepEngine e) n (getEngine e s.toBlock)).1 s.draws).1 e s (generated e n fin s) :=
  ⟨by simp [generated, State.respond, State.setDraws], fun e' h => by
    have := sameOthers_putEngine e (runN (stepEngine e) n (getEngine e s.toBlock)).2 s e' h
    cases e <;> cases e' <;> exact this, by cases e <;> rfl, by cases e <;> rfl⟩

/-- The engine a generation command leaves. -/
theorem getEngine_generated (e : Engine) (n : Nat) (fin : Finish e) (s : State) :
    getEngine e (generated e n fin s).toBlock = (runN (stepEngine e) n (getEngine e s.toBlock)).2 := by
  cases e <;> rfl

/-- A command is STATUS, a seeding command of one engine, or a generation command of one engine. -/
theorem kinds (i : Instr) :
    i = .status ∨ (∃ e, seeding i = some e) ∨ ∃ e rep, generation i = some (e, rep) := by
  cases i <;> simp [seeding, generation]

/-- INVERSION: all a command can do where it answers a next state: STATUS answers its word; a seeding command puts
its engine; a generation command generates; or the command faults. -/
theorem exec_next {i : Instr} {s t : State} (h : exec i s = .next t) :
    (i = .status ∧ t = s.respond 0#4 [statusWord s.toBlock]) ∨
      (∃ e, seeding i = some e ∧ ∃ v : EngineState e, seeded (putEngine e v s).toBlock e = true ∧
        t = (putEngine e v s).respond 0#4 []) ∨
      (∃ e rep, generation i = some (e, rep) ∧ seeded s.toBlock e = true ∧
        ∃ fin : Finish e, t = generated e (repeatCount rep) fin s) ∨
      ∃ c, (c = .emptyKey ∨ c = .badKeyLength ∨ c = .unseeded) ∧ t = takeFault c s := by
  rcases kinds i with rfl | ⟨e, he⟩ | ⟨e, rep, hg⟩
  · exact .inl ⟨rfl, by cases h; rfl⟩
  · rcases exec_seeding he with ⟨v, hv, hs⟩ | ⟨c, hc, hf⟩ | hr
    · rw [hv] at h
      exact .inr (.inl ⟨e, he, v, hs s, by cases h; rfl⟩)
    · rw [hf] at h
      exact .inr (.inr (.inr ⟨c, by tauto, by cases h; rfl⟩))
    · rw [hr] at h; cases h
  · obtain ⟨fin, hfin, -⟩ := exec_generation hg
    rw [hfin, generationOutcome, asserted] at h
    have h : (if seeded s.toBlock e then Host.Outcome.next (generated e (repeatCount rep) fin s)
        else .next (takeFault .unseeded s) : Host.Outcome State Fault Refusal) = .next t := by
      split at h
      · unfold mtAsserted at h
        split at h
        · exact h
        · cases h
      · exact h
    split at h
    · exact .inr (.inr (.inl ⟨e, rep, hg, by assumption, fin, by cases h; rfl⟩))
    · exact .inr (.inr (.inr ⟨.unseeded, by simp, by cases h; rfl⟩))

/-- A step on a transaction is what its decoding says. -/
theorem step_command {s : State} {w : U32} {ops : List U64} {rest : List HostAction}
    (h : s.pending = .command w ops :: rest) :
    step s =
      match decode w ops with
      | .instr i => exec i (s.setPending rest)
      | .fault c => raise c (s.setPending rest)
      | .wrongOperandCount => .refused .operandCount := by
  cases hd : decode w ops <;> simp only [step, takeAction_cons h, hd]

/-- A step on a reset event resets the block. -/
theorem step_reset {s : State} {rest : List HostAction} (h : s.pending = .reset :: rest) :
    step s = .next (resetBlock (s.setPending rest)) := by
  simp only [step, takeAction_cons h]

/-- INVERSION: all a step can do where it answers a next state. -/
theorem step_next {s t : State} (h : step s = .next t) :
    (s.pending = [] ∧ t = s) ∨
      (∃ rest, s.pending = .reset :: rest ∧ t = resetBlock (s.setPending rest)) ∨
      (∃ w ops rest i, s.pending = .command w ops :: rest ∧ decode w ops = .instr i ∧
        exec i (s.setPending rest) = .next t) ∨
      ∃ w ops rest c, s.pending = .command w ops :: rest ∧ decode w ops = .fault c ∧
        t = takeFault c (s.setPending rest) := by
  cases hp : s.pending with
  | nil => left; exact ⟨rfl, by simp only [step, takeAction_nil hp] at h; cases h; rfl⟩
  | cons a rest =>
    cases a with
    | reset => rw [step_reset hp] at h; cases h; exact .inr (.inl ⟨rest, rfl, rfl⟩)
    | command w ops =>
      rw [step_command hp] at h
      split at h
      · rename_i i hd; exact .inr (.inr (.inl ⟨w, ops, rest, i, rfl, hd, h⟩))
      · rename_i c hd; cases h; exact .inr (.inr (.inr ⟨w, ops, rest, c, rfl, hd, rfl⟩))
      · cases h

end Sys2Proof.Laws
end

