-- ==== Sys2Proof/Laws/Mt64.lean ====
section
/-! SUPPORT. The MT64 procedures' small lemmas: the array keeps its length through seeding and regeneration, the
cursor stays in its range, and each word of a seeded array by itself. -/

namespace Sys2Proof.Machine

/-! ### times -/

theorem times_succ {α : Type} (step : α → α) (n : Nat) (a : α) : times step (n + 1) a = times step n (step a) := rfl

theorem times_succ_last {α : Type} (step : α → α) (n : Nat) (a : α) : times step (n + 1) a = step (times step n a) := by
  induction n generalizing a with
  | zero => rfl
  | succ n ih => rw [times_succ, ih]; rfl

/-- What every round keeps, the loop keeps. -/
theorem times_keeps {α : Type} {step : α → α} {P : α → Prop} (h : ∀ a, P a → P (step a)) (n : Nat) {a : α} (ha : P a) :
    P (times step n a) := by
  induction n generalizing a with
  | zero => exact ha
  | succ n ih => exact ih (h a ha)

/-! ### Scalar seeding -/

@[simp] theorem mtInitFrom_length (c : Params) (n i : Nat) (prev : U64) : (mtInitFrom c n i prev).length = n := by
  induction n generalizing i prev with
  | zero => rfl
  | succ n ih => simp [mtInitFrom, ih]

@[simp] theorem mtInitGenrand_length (seed : U64) : (mtInitGenrand params seed).length = 312 := by
  simp [mtInitGenrand, show params.mtN = 312 from rfl]

/-- Word j of the words from word i on comes from the word before it. -/
theorem mtInitFrom_getD (c : Params) (n i j : Nat) (prev : U64) (h : j < n) :
    (mtInitFrom c n i prev).getD j 0#64 =
      mtInitWord c (i + j) ((prev :: mtInitFrom c n i prev).getD j 0#64) := by
  induction n generalizing i j prev with
  | zero => omega
  | succ n ih =>
    cases j with
    | zero => rfl
    | succ j =>
      have := ih (i + 1) j (mtInitWord c i prev) (by omega)
      rw [Nat.add_assoc, Nat.add_comm 1 j] at this
      simpa [mtInitFrom] using this

/-! ### Array seeding -/

@[simp] theorem mtFillWrap_length (c : Params) (f : MtFill) : (mtFillWrap c f).mt.length = f.mt.length := by
  unfold mtFillWrap; split <;> simp

@[simp] theorem mtPass1_length (c : Params) (key : List U64) (f : MtFill) : (mtPass1 c key f).mt.length = f.mt.length := by
  simp [mtPass1]

@[simp] theorem mtPass2_length (c : Params) (f : MtFill) : (mtPass2 c f).mt.length = f.mt.length := by
  simp [mtPass2]

@[simp] theorem mtInitByArray_length (key : List U64) : (mtInitByArray params key).length = 312 := by
  have h1 : ∀ (n : Nat) (f : MtFill), (times (mtPass1 params key) n f).mt.length = f.mt.length := fun n f =>
    times_keeps (P := fun g : MtFill => g.mt.length = f.mt.length) (fun g h => by rw [mtPass1_length, h]) n rfl
  have h2 : ∀ (n : Nat) (f : MtFill), (times (mtPass2 params) n f).mt.length = f.mt.length := fun n f =>
    times_keeps (P := fun g : MtFill => g.mt.length = f.mt.length) (fun g h => by rw [mtPass2_length, h]) n rfl
  rw [mtInitByArray, List.length_set, h2, h1, mtInitGenrand_length]

/-- Writing a word, then copying word 311 to word 0 where the position wraps, is one step of a mixing pass. -/
theorem mixStep_of_set {mt : List U64} (h : mt.length = 312) {i j : Nat} (h1 : 1 ≤ i) (h2 : i ≤ 311)
    (mult offset : U64) :
    Safety.MixStep i mult offset (fun x => mtGet mt x) (fun x => mtGet (mtFillWrap params
      ⟨mt.set i ((mtGet mt i ^^^ ((mtGet mt (i - 1) ^^^ (mtGet mt (i - 1) >>> 62)) * mult)) + offset), i + 1, j⟩).mt x) ∧
    (mtFillWrap params ⟨mt.set i ((mtGet mt i ^^^ ((mtGet mt (i - 1) ^^^ (mtGet mt (i - 1) >>> 62)) * mult)) + offset),
      i + 1, j⟩).i = 1 + i % 311 := by
  generalize hv : (mtGet mt i ^^^ ((mtGet mt (i - 1) ^^^ (mtGet mt (i - 1) >>> 62)) * mult)) + offset = v
  simp only [Safety.MixStep, hv, mtFillWrap, show params.mtN = 312 from rfl]
  by_cases hi : i = 311
  · subst hi
    simp only [mtGet, List.getD_eq_getElem?_getD, Nat.reduceAdd, Nat.reduceSub, Nat.reduceMod, Nat.reduceLeDiff,
      ↓reduceIte]
    refine ⟨⟨?_, ?_, fun x hx1 hx2 hx => ?_⟩, trivial⟩ <;> simp [List.getElem?_set, h]
    rw [if_neg (by omega), if_neg (by omega)]
  · rw [if_neg (by omega), if_neg hi]
    refine ⟨⟨?_, ?_, fun x hx1 hx2 hx => ?_⟩, by show i + 1 = _; omega⟩ <;>
      simp only [mtGet, List.getD_eq_getElem?_getD, List.getElem?_set]
    · simp [h, show i < 312 by omega]
    · rw [if_neg (by omega)]
    · rw [if_neg (Ne.symm hx)]

/-- What one step of pass 1 does (42_mt64.md R202): it mixes word i, and moves both indices on. -/
theorem mtPass1_mixes {key : List U64} {f : MtFill} (h : f.mt.length = 312) (h1 : 1 ≤ f.i) (h2 : f.i ≤ 311)
    (h3 : f.j < key.length) :
    Safety.MixStep f.i 3935559000370003845#64 (mtGet key f.j + BitVec.ofNat 64 f.j) (mtGet f.mt)
        (mtGet (mtPass1 params key f).mt) ∧
      (mtPass1 params key f).i = 1 + f.i % 311 ∧ (mtPass1 params key f).j = (f.j + 1) % key.length := by
  have hm := fun j => mixStep_of_set h (j := j) h1 h2 3935559000370003845#64
    (mtGet key f.j + BitVec.ofNat 64 f.j)
  have hj : ∀ j : Nat, ∀ mt i, (mtFillWrap params ⟨mt, i, j⟩).j = j := fun j mt i => by unfold mtFillWrap; split <;> rfl
  simp only [← BitVec.add_assoc] at hm ⊢
  refine ⟨(hm _).1, (hm _).2, (hj _ _ _).trans ?_⟩
  split
  · rw [show f.j + 1 = key.length by omega, Nat.mod_self]
  · rw [Nat.mod_eq_of_lt (by omega)]

/-- What one step of pass 2 does (42_mt64.md R202): it mixes word i, and moves it on. -/
theorem mtPass2_mixes {f : MtFill} (h : f.mt.length = 312) (h1 : 1 ≤ f.i) (h2 : f.i ≤ 311) :
    Safety.MixStep f.i 2862933555777941757#64 (-BitVec.ofNat 64 f.i) (mtGet f.mt) (mtGet (mtPass2 params f).mt) ∧
      (mtPass2 params f).i = 1 + f.i % 311 := by
  have hm := mixStep_of_set h (j := f.j) h1 h2 2862933555777941757#64 (-BitVec.ofNat 64 f.i)
  simp only [← BitVec.sub_eq_add_neg] at hm
  exact hm

/-! ### Regeneration -/

/-- A fold of writes at given places keeps the length. -/
theorem foldl_set_length (f : List U64 → Nat → U64) (is : List Nat) (mt : List U64) :
    (is.foldl (fun m i => m.set i (f m i)) mt).length = mt.length := by
  induction is generalizing mt with
  | nil => rfl
  | cons i is ih => simp [ih]

@[simp] theorem mtTwist_length (c : Params) (mt : List U64) : (mtTwist c mt).length = mt.length :=
  foldl_set_length _ _ _

/-- The array after the first n positions of the twist. -/
def twistTo (c : Params) (mt : List U64) (n : Nat) : List U64 :=
  (List.range n).foldl (fun m i => m.set i (mtTwistWord c m i)) mt

theorem mtTwist_eq (c : Params) (mt : List U64) : mtTwist c mt = twistTo c mt c.mtN := rfl

theorem twistTo_succ (c : Params) (mt : List U64) (n : Nat) :
    twistTo c mt (n + 1) = (twistTo c mt n).set n (mtTwistWord c (twistTo c mt n) n) := by
  simp [twistTo, List.range_succ]

@[simp] theorem twistTo_length (c : Params) (mt : List U64) (n : Nat) : (twistTo c mt n).length = mt.length :=
  foldl_set_length _ _ _

/-- A position the twist has not reached holds the old word. -/
theorem twistTo_getD_of_le (c : Params) (mt : List U64) {n i : Nat} (h : n ≤ i) :
    (twistTo c mt n).getD i 0#64 = mt.getD i 0#64 := by
  induction n with
  | zero => rfl
  | succ n ih =>
    rw [twistTo_succ, List.getD_eq_getElem?_getD, List.getElem?_set_ne (by omega), ← List.getD_eq_getElem?_getD,
      ih (by omega)]

/-- A position the twist has passed keeps its new word. -/
theorem twistTo_getD_of_lt (c : Params) (mt : List U64) {n m i : Nat} (h : i < n) (hm : n ≤ m) :
    (twistTo c mt m).getD i 0#64 = (twistTo c mt n).getD i 0#64 := by
  induction m, hm using Nat.le_induction with
  | base => rfl
  | succ m hm ih =>
    rw [twistTo_succ, List.getD_eq_getElem?_getD, List.getElem?_set_ne (by omega), ← List.getD_eq_getElem?_getD, ih]

/-- The word the twist writes at position i. -/
theorem twistTo_getD_self (c : Params) (mt : List U64) {i : Nat} (h : i < mt.length) :
    (twistTo c mt (i + 1)).getD i 0#64 = mtTwistWord c (twistTo c mt i) i := by
  rw [twistTo_succ, List.getD_eq_getElem?_getD, List.getElem?_set_self (by simpa using h)]
  rfl

/-! ### The cursor -/

/-- The engine `MT_Next` reads from has its cursor inside the array. -/
theorem mtReady_idx {e : Mt64Engine} (h : e.idx.toNat ≤ 312) : (mtReady params e).idx.toNat ≤ 311 := by
  unfold mtReady
  split
  · simp
  · rename_i hne
    have : params.mtN = 312 := rfl
    omega

@[simp] theorem mtReady_length (e : Mt64Engine) : (mtReady params e).mt.length = e.mt.length := by
  unfold mtReady
  split <;> simp

/-- The cursor a generation leaves: one past the word it read. -/
theorem mtNext_idx {e : Mt64Engine} (h : e.idx.toNat ≤ 312) :
    ((mtReady params e).idx + 1#9).toNat = (mtReady params e).idx.toNat + 1 := by
  have := mtReady_idx h
  rw [BitVec.toNat_add]
  simp
  omega

end Sys2Proof.Machine

namespace Sys2Proof.Laws

open Sys2Proof.Machine

/-- The range MT64's state stays in: 312 words, the cursor at most 312. -/
def MtOk (e : Mt64Engine) : Prop := e.mt.length = 312 ∧ e.idx.toNat ≤ 312

/-- A generation keeps MT64's state in its range. -/
theorem mtOk_step {e : Mt64Engine} (h : MtOk e) : MtOk (stepEngine .mt64 e).2 := by
  refine ⟨?_, ?_⟩
  · simpa [stepEngine] using h.1
  · have h1 := mtReady_idx h.2
    have h2 := mtNext_idx h.2
    show ((mtReady params e).idx + 1#9).toNat ≤ 312
    omega

/-- So does any number of them. -/
theorem mtOk_run {e : Mt64Engine} (h : MtOk e) (n : Nat) : MtOk (runN (stepEngine .mt64) n e).2 :=
  runN_keeps (stepEngine .mt64) (P := MtOk) (fun _ he => mtOk_step he) n e h

/-- A cursor in its range is not the sentinel. -/
theorem engineSeeded_mt64 {v : Mt64Engine} (h : v.idx.toNat ≤ 312) : engineSeeded .mt64 v = true :=
  decide_eq_true (by rw [show params.mtSentinel = 313 from rfl]; omega)

/-- Any number of generations keeps MT64's cursor in its range. -/
theorem mtIdx_run {v : Mt64Engine} (h : v.idx.toNat ≤ 312) (n : Nat) :
    (runN (stepEngine .mt64) n v).2.idx.toNat ≤ 312 := by
  refine runN_keeps (stepEngine .mt64) (P := fun v : Mt64Engine => v.idx.toNat ≤ 312) (fun v hv => ?_) n v h
  have h1 := mtReady_idx hv
  have h2 := mtNext_idx hv
  show ((mtReady params v).idx + 1#9).toNat ≤ 312
  omega

/-- A seeded engine stays seeded through any number of generations. -/
theorem engineSeeded_run {e : Engine} {v : EngineState e} (h : engineSeeded e v = true)
    (hm : ∀ m : Mt64Engine, HEq v m → e = .mt64 → m.idx.toNat ≤ 312) (n : Nat) :
    engineSeeded e (runN (stepEngine e) n v).2 = true := by
  by_cases he : e = .mt64
  · subst he
    exact engineSeeded_mt64 (mtIdx_run (hm v HEq.rfl rfl) n)
  · exact runN_keeps (stepEngine e) (P := fun v => engineSeeded e v = true)
      (fun v hv => by rw [engineSeeded_step he, hv]) n v h

/-- What an engine that is ready leaves after a generation command is seeded. -/
theorem seeded_generated {e : Engine} {s : State} (h : Safety.Ready e s) (n : Nat) (fin : Finish e) :
    seeded (generated e n fin s).toBlock e = true := by
  rw [seeded_eq, getEngine_generated]
  refine engineSeeded_run (by rw [← seeded_eq]; exact h.1) ?_ n
  rintro m hm rfl
  have hm : s.mt64 = m := eq_of_heq hm
  exact hm ▸ h.2 rfl

/-- Where a generation command on an engine that is ready goes. -/
theorem generationOutcome_of_ready {e : Engine} {s : State} (h : Safety.Ready e s) (n : Nat) (fin : Finish e) :
    generationOutcome e n fin s = .next (generated e n fin s) := by
  rw [generationOutcome, h.1, asserted]
  split
  · rename_i he
    rw [mtAsserted, if_pos (.inl (h.2 he))]
    rfl
  · rfl

/-- A generation command that answers a next state on a seeded engine was ready. -/
theorem ready_of_next {e : Engine} {s t : State} {n : Nat} {fin : Finish e} (hs : seeded s.toBlock e = true)
    (h : generationOutcome e n fin s = .next t) : Safety.Ready e s := by
  refine ⟨hs, ?_⟩
  rintro rfl
  rw [generationOutcome, asserted, if_pos rfl, mtAsserted] at h
  split at h
  · rename_i hm
    exact hm.resolve_right (of_decide_eq_true hs)
  · cases h

end Sys2Proof.Laws
end

