-- ==== Sys2Proof/Laws/Inv.lean ====
section
/-! SUPPORT. Every operation a step is made of keeps the invariant of 10_state.md R33. -/

namespace Sys2Proof.Laws

open Sys2Proof.Machine Sys2Proof.Safety

/-- The codes a fault can have (60_exceptions.md R341). -/
theorem causeCode_range (c : Cause) : 1 ≤ (causeCode c).toNat ∧ (causeCode c).toNat ≤ 7 := by cases c <;> decide

theorem inv_setPending {s : State} (l : List HostAction) (h : Inv s) : Inv (s.setPending l) := h

theorem inv_takeFault {s : State} (c : Cause) (h : Inv s) : Inv (takeFault c s) := by
  obtain ⟨h1, h2, h3, h4⟩ := h
  have := causeCode_range c
  refine ⟨h1, h2, ?_, ?_⟩
  · simp only [takeFault, faultsOk, recordFault] at *
    simp
    split_ifs at h3 ⊢ <;> simp_all
  · simp only [takeFault, State.respond_responses, State.setFaults_responses, List.mem_append, List.mem_singleton]
    rintro r (hr | rfl)
    · exact h4 r hr
    · exact ⟨by simp; omega, fun _ => rfl⟩

theorem inv_respond {s : State} (ws : List U64) (h : Inv s) : Inv (s.respond 0#4 ws) := by
  obtain ⟨h1, h2, h3, h4⟩ := h
  refine ⟨h1, h2, h3, ?_⟩
  simp only [State.respond_responses, List.mem_append, List.mem_singleton]
  rintro r (hr | rfl)
  · exact h4 r hr
  · exact ⟨by simp, by simp⟩

theorem inv_putEngine {s : State} {e : Engine} {v : EngineState e} (h : Inv s)
    (hv : e = .mt64 → MtOk (putEngine e v s).mt64) : Inv (putEngine e v s) := by
  obtain ⟨h1, h2, h3, h4⟩ := h
  cases e
  case mt64 =>
    have := hv rfl
    exact ⟨this.1, by have := this.2; omega, h3, h4⟩
  all_goals exact ⟨h1, h2, h3, h4⟩

theorem inv_generated {s : State} {e : Engine} (n : Nat) (fin : Finish e) (h : Inv s)
    (hs : seeded s.toBlock e = true) : Inv (generated e n fin s) := by
  refine inv_respond (s := State.setDraws _ _) _ (show Inv (putEngine e _ s) from inv_putEngine h ?_)
  rintro rfl
  have : s.mt64.idx.toNat ≠ 313 := of_decide_eq_true hs
  exact mtOk_run ⟨h.1, by have := h.2.1; show s.mt64.idx.toNat ≤ 312; omega⟩ _

/-- What a seeding command of MT64 leaves there is in range, or what was there before it. -/
theorem mtOk_of_seeding {i : Instr} (h : seeding i = some .mt64) {s t : State} (ht : exec i s = .next t) :
    MtOk t.mt64 ∨ t.mt64 = s.mt64 := by
  cases i <;> simp [seeding] at h
  case seedMt64 a =>
    cases ht
    exact .inl ⟨mtInitGenrand_length _, show (BitVec.ofNat 9 params.mtN).toNat ≤ 312 by decide⟩
  case seedaMt64 key =>
    simp only [exec, execSeedaMt64] at ht
    split_ifs at ht
    · cases ht; right; rfl
    · left
      rw [complete] at ht
      injection ht with ht
      rw [← ht]
      exact ⟨by simp, show (BitVec.ofNat 9 params.mtN).toNat ≤ 312 by decide⟩

end Sys2Proof.Laws
end

