-- ==== Sys2Proof/Laws/PerInstr.lean ====
section
/-! SUPPORT. Statements about every command, one lemma a constructor.

EncodeChecked: the command word a well-formed command is encoded as passes checks 1 to 4 of 60_exceptions.md R342,
and the command comes with as many operand words as 30_encoding.md R71 fixes for that word (check 5). -/

namespace Sys2Proof.Laws.EncodeChecked

/-- The encoding of a well-formed command passes checks 1 to 5. -/
def Statement (i : Instr) : Prop :=
  i.wellFormed = true →
    ∃ op e, checkWord (encodeWord i) = .ok (op, e) ∧
      (encodeOps i).length = operandCount op e (cntField (encodeWord i))

theorem seedXs32 (a : U64) : Statement (.seedXs32 a) :=
  fun _ => ⟨_, _, checkWord_seed (by decide), rfl⟩

theorem seedXs64 (a : U64) : Statement (.seedXs64 a) :=
  fun _ => ⟨_, _, checkWord_seed (by decide), rfl⟩

theorem seedXs128 (a b : U64) : Statement (.seedXs128 a b) :=
  fun _ => ⟨_, _, checkWord_seed (by decide), rfl⟩

theorem seedXs64s (a : U64) : Statement (.seedXs64s a) :=
  fun _ => ⟨_, _, checkWord_seed (by decide), rfl⟩

theorem seedPcg32LcgXshrr (a : U64) : Statement (.seedPcg32LcgXshrr a) :=
  fun _ => ⟨_, _, checkWord_seed (by decide), rfl⟩

theorem seedPcg32LcgXshrs (a : U64) : Statement (.seedPcg32LcgXshrs a) :=
  fun _ => ⟨_, _, checkWord_seed (by decide), rfl⟩

theorem seedPcg32McgXshrr (a : U64) : Statement (.seedPcg32McgXshrr a) :=
  fun _ => ⟨_, _, checkWord_seed (by decide), rfl⟩

theorem seedPcg32McgXshrs (a : U64) : Statement (.seedPcg32McgXshrs a) :=
  fun _ => ⟨_, _, checkWord_seed (by decide), rfl⟩

theorem seedPcg64LcgXslrr (a b : U64) : Statement (.seedPcg64LcgXslrr a b) :=
  fun _ => ⟨_, _, checkWord_seed (by decide), rfl⟩

theorem seedPcg64McgXslrr (a b : U64) : Statement (.seedPcg64McgXslrr a b) :=
  fun _ => ⟨_, _, checkWord_seed (by decide), rfl⟩

theorem seedMt64 (a : U64) : Statement (.seedMt64 a) :=
  fun _ => ⟨_, _, checkWord_seed (by decide), rfl⟩

theorem seedaXs1024s (key : List U64) : Statement (.seedaXs1024s key) :=
  fun h => ⟨_, _, checkWord_seeda (by decide) _, by
    simpa [operandCount, encodeOps, encodeWord] using (toNat_keyCnt h).symm⟩

theorem seedaMt64 (key : List U64) : Statement (.seedaMt64 key) :=
  fun h => ⟨_, _, checkWord_seeda (by decide) _, by
    simpa [operandCount, encodeOps, encodeWord] using (toNat_keyCnt h).symm⟩

theorem genXs32 (rep : Repeat) : Statement (.genXs32 rep) :=
  fun _ => ⟨_, _, checkWord_gen _ rep, rfl⟩

theorem genXs64 (rep : Repeat) : Statement (.genXs64 rep) :=
  fun _ => ⟨_, _, checkWord_gen _ rep, rfl⟩

theorem genXs128 (rep : Repeat) : Statement (.genXs128 rep) :=
  fun _ => ⟨_, _, checkWord_gen _ rep, rfl⟩

theorem genXs64s (rep : Repeat) : Statement (.genXs64s rep) :=
  fun _ => ⟨_, _, checkWord_gen _ rep, rfl⟩

theorem genXs1024s (rep : Repeat) : Statement (.genXs1024s rep) :=
  fun _ => ⟨_, _, checkWord_gen _ rep, rfl⟩

theorem genPcg32LcgXshrr (rep : Repeat) : Statement (.genPcg32LcgXshrr rep) :=
  fun _ => ⟨_, _, checkWord_gen _ rep, rfl⟩

theorem genPcg32LcgXshrs (rep : Repeat) : Statement (.genPcg32LcgXshrs rep) :=
  fun _ => ⟨_, _, checkWord_gen _ rep, rfl⟩

theorem genPcg32McgXshrr (rep : Repeat) : Statement (.genPcg32McgXshrr rep) :=
  fun _ => ⟨_, _, checkWord_gen _ rep, rfl⟩

theorem genPcg32McgXshrs (rep : Repeat) : Statement (.genPcg32McgXshrs rep) :=
  fun _ => ⟨_, _, checkWord_gen _ rep, rfl⟩

theorem genPcg64LcgXslrr (rep : Repeat) : Statement (.genPcg64LcgXslrr rep) :=
  fun _ => ⟨_, _, checkWord_gen _ rep, rfl⟩

theorem genPcg64McgXslrr (rep : Repeat) : Statement (.genPcg64McgXslrr rep) :=
  fun _ => ⟨_, _, checkWord_gen _ rep, rfl⟩

theorem genMt64 (rep : Repeat) : Statement (.genMt64 rep) :=
  fun _ => ⟨_, _, checkWord_gen _ rep, rfl⟩

theorem genrXs32 (rep : Repeat) : Statement (.genrXs32 rep) :=
  fun _ => ⟨_, _, checkWord_genr _ rep, rfl⟩

theorem genrXs64 (rep : Repeat) : Statement (.genrXs64 rep) :=
  fun _ => ⟨_, _, checkWord_genr _ rep, rfl⟩

theorem genrXs128 (rep : Repeat) : Statement (.genrXs128 rep) :=
  fun _ => ⟨_, _, checkWord_genr _ rep, rfl⟩

theorem genrXs64s (rep : Repeat) : Statement (.genrXs64s rep) :=
  fun _ => ⟨_, _, checkWord_genr _ rep, rfl⟩

theorem genrXs1024s (rep : Repeat) : Statement (.genrXs1024s rep) :=
  fun _ => ⟨_, _, checkWord_genr _ rep, rfl⟩

theorem genrPcg32LcgXshrr (rep : Repeat) : Statement (.genrPcg32LcgXshrr rep) :=
  fun _ => ⟨_, _, checkWord_genr _ rep, rfl⟩

theorem genrPcg32LcgXshrs (rep : Repeat) : Statement (.genrPcg32LcgXshrs rep) :=
  fun _ => ⟨_, _, checkWord_genr _ rep, rfl⟩

theorem genrPcg32McgXshrr (rep : Repeat) : Statement (.genrPcg32McgXshrr rep) :=
  fun _ => ⟨_, _, checkWord_genr _ rep, rfl⟩

theorem genrPcg32McgXshrs (rep : Repeat) : Statement (.genrPcg32McgXshrs rep) :=
  fun _ => ⟨_, _, checkWord_genr _ rep, rfl⟩

theorem genrPcg64LcgXslrr (rep : Repeat) : Statement (.genrPcg64LcgXslrr rep) :=
  fun _ => ⟨_, _, checkWord_genr _ rep, rfl⟩

theorem genrPcg64McgXslrr (rep : Repeat) : Statement (.genrPcg64McgXslrr rep) :=
  fun _ => ⟨_, _, checkWord_genr _ rep, rfl⟩

theorem genrMt64 (rep : Repeat) : Statement (.genrMt64 rep) :=
  fun _ => ⟨_, _, checkWord_genr _ rep, rfl⟩

theorem genrcXs32 (rep : Repeat) : Statement (.genrcXs32 rep) :=
  fun _ => ⟨_, _, checkWord_genrc _ rep, rfl⟩

theorem genrcXs64 (rep : Repeat) : Statement (.genrcXs64 rep) :=
  fun _ => ⟨_, _, checkWord_genrc _ rep, rfl⟩

theorem genrcXs128 (rep : Repeat) : Statement (.genrcXs128 rep) :=
  fun _ => ⟨_, _, checkWord_genrc _ rep, rfl⟩

theorem genrcXs64s (rep : Repeat) : Statement (.genrcXs64s rep) :=
  fun _ => ⟨_, _, checkWord_genrc _ rep, rfl⟩

theorem genrcXs1024s (rep : Repeat) : Statement (.genrcXs1024s rep) :=
  fun _ => ⟨_, _, checkWord_genrc _ rep, rfl⟩

theorem genrcPcg32LcgXshrr (rep : Repeat) : Statement (.genrcPcg32LcgXshrr rep) :=
  fun _ => ⟨_, _, checkWord_genrc _ rep, rfl⟩

theorem genrcPcg32LcgXshrs (rep : Repeat) : Statement (.genrcPcg32LcgXshrs rep) :=
  fun _ => ⟨_, _, checkWord_genrc _ rep, rfl⟩

theorem genrcPcg32McgXshrr (rep : Repeat) : Statement (.genrcPcg32McgXshrr rep) :=
  fun _ => ⟨_, _, checkWord_genrc _ rep, rfl⟩

theorem genrcPcg32McgXshrs (rep : Repeat) : Statement (.genrcPcg32McgXshrs rep) :=
  fun _ => ⟨_, _, checkWord_genrc _ rep, rfl⟩

theorem genrcPcg64LcgXslrr (rep : Repeat) : Statement (.genrcPcg64LcgXslrr rep) :=
  fun _ => ⟨_, _, checkWord_genrc _ rep, rfl⟩

theorem genrcPcg64McgXslrr (rep : Repeat) : Statement (.genrcPcg64McgXslrr rep) :=
  fun _ => ⟨_, _, checkWord_genrc _ rep, rfl⟩

theorem genrcMt64 (rep : Repeat) : Statement (.genrcMt64 rep) :=
  fun _ => ⟨_, _, checkWord_genrc _ rep, rfl⟩

theorem genrrXs32 (rep : Repeat) (lo hi : U64) : Statement (.genrrXs32 rep lo hi) :=
  fun _ => ⟨_, _, checkWord_genrr _ rep, rfl⟩

theorem genrrXs64 (rep : Repeat) (lo hi : U64) : Statement (.genrrXs64 rep lo hi) :=
  fun _ => ⟨_, _, checkWord_genrr _ rep, rfl⟩

theorem genrrXs128 (rep : Repeat) (lo hi : U64) : Statement (.genrrXs128 rep lo hi) :=
  fun _ => ⟨_, _, checkWord_genrr _ rep, rfl⟩

theorem genrrXs64s (rep : Repeat) (lo hi : U64) : Statement (.genrrXs64s rep lo hi) :=
  fun _ => ⟨_, _, checkWord_genrr _ rep, rfl⟩

theorem genrrXs1024s (rep : Repeat) (lo hi : U64) : Statement (.genrrXs1024s rep lo hi) :=
  fun _ => ⟨_, _, checkWord_genrr _ rep, rfl⟩

theorem genrrPcg32LcgXshrr (rep : Repeat) (lo hi : U64) : Statement (.genrrPcg32LcgXshrr rep lo hi) :=
  fun _ => ⟨_, _, checkWord_genrr _ rep, rfl⟩

theorem genrrPcg32LcgXshrs (rep : Repeat) (lo hi : U64) : Statement (.genrrPcg32LcgXshrs rep lo hi) :=
  fun _ => ⟨_, _, checkWord_genrr _ rep, rfl⟩

theorem genrrPcg32McgXshrr (rep : Repeat) (lo hi : U64) : Statement (.genrrPcg32McgXshrr rep lo hi) :=
  fun _ => ⟨_, _, checkWord_genrr _ rep, rfl⟩

theorem genrrPcg32McgXshrs (rep : Repeat) (lo hi : U64) : Statement (.genrrPcg32McgXshrs rep lo hi) :=
  fun _ => ⟨_, _, checkWord_genrr _ rep, rfl⟩

theorem genrrPcg64LcgXslrr (rep : Repeat) (lo hi : U64) : Statement (.genrrPcg64LcgXslrr rep lo hi) :=
  fun _ => ⟨_, _, checkWord_genrr _ rep, rfl⟩

theorem genrrPcg64McgXslrr (rep : Repeat) (lo hi : U64) : Statement (.genrrPcg64McgXslrr rep lo hi) :=
  fun _ => ⟨_, _, checkWord_genrr _ rep, rfl⟩

theorem genrrMt64 (rep : Repeat) (lo hi : U64) : Statement (.genrrMt64 rep lo hi) :=
  fun _ => ⟨_, _, checkWord_genrr _ rep, rfl⟩

theorem status : Statement .status :=
  fun _ => ⟨_, _, checkWord_status, rfl⟩

end Sys2Proof.Laws.EncodeChecked
end

