-- ==== Sys2Proof/Laws/Status.lean ====
section
/-! SUPPORT. The STATUS register as a number: each field at its place (10_state.md R31). -/

namespace Sys2Proof.Machine

/-- STATUS.SEEDED as a number: bit e is SEEDED(e). -/
theorem toNat_seededField (b : Block) :
    (seededField b).toNat =
      (seeded b .xs32).toNat + (seeded b .xs64).toNat * 2 + (seeded b .xs128).toNat * 4 +
        (seeded b .xs64s).toNat * 8 + (seeded b .xs1024s).toNat * 16 + (seeded b .pcg32LcgXshrr).toNat * 32 +
        (seeded b .pcg32LcgXshrs).toNat * 64 + (seeded b .pcg32McgXshrr).toNat * 128 +
        (seeded b .pcg32McgXshrs).toNat * 256 + (seeded b .pcg64LcgXslrr).toNat * 512 +
        (seeded b .pcg64McgXslrr).toNat * 1024 + (seeded b .mt64).toNat * 2048 := by
  simp only [seededField, seededBit]
  repeat rw [toNat_append_add]
  simp only [BitVec.toNat_ofBool]
  omega

/-- STATUS as a number. -/
theorem toNat_statusWord (b : Block) :
    (statusWord b).toNat =
      b.faults.faulted.toNat + b.faults.firstCause.toNat * 2 ^ 4 + b.faults.lastCause.toNat * 2 ^ 8 +
        (seededField b).toNat * 2 ^ 16 := by
  simp only [statusWord]
  repeat rw [toNat_append_add]
  simp only [BitVec.toNat_ofBool, BitVec.toNat_ofNat]
  omega

end Sys2Proof.Machine
end

