-- ==== Sys2Proof/Tests/Slice0.lean ====
section
/-! SUPPORT. Tests. Expected values come from the spec: command words from the encoding tables (30_encoding.md R66 to
R69, R80), results from the worked vectors of 95_test_vectors.md, named where they stand. The last part holds, for
each statement of Sys2Proof/Certificates/Slice0/Obligations.lean with hypotheses, values that meet them together. -/

namespace Sys2Proof.Tests

open Sys2Proof.Machine Sys2Proof.Safety

/-! ### WellFormed: an ill-formed term for each check -/

theorem test_overlong_key_mt64_is_ill_formed : (Instr.seedaMt64 (List.replicate 65536 0#64)).wellFormed = false := by
  simp only [Instr.wellFormed, keyExpressible, List.length_replicate]; decide

theorem test_overlong_key_xs1024s_is_ill_formed :
    (Instr.seedaXs1024s (List.replicate 65536 0#64)).wellFormed = false := by
  simp only [Instr.wellFormed, keyExpressible, List.length_replicate]; decide

theorem test_longest_key_is_well_formed : (Instr.seedaMt64 (List.replicate 65535 0#64)).wellFormed = true := by
  simp only [Instr.wellFormed, keyExpressible, List.length_replicate]; decide

theorem test_empty_key_is_well_formed : (Instr.seedaMt64 []).wellFormed = true := by decide

/-! ### Decode: every constructor from a word written out from R66 to R69 -/

theorem test_decode_seed :
    decode 0x00000001#32 [7#64] = .instr (.seedXs32 7#64) ∧
    decode 0x00000011#32 [7#64] = .instr (.seedXs64 7#64) ∧
    decode 0x00000021#32 [8#64, 9#64] = .instr (.seedXs128 8#64 9#64) ∧
    decode 0x00000031#32 [7#64] = .instr (.seedXs64s 7#64) ∧
    decode 0x00000051#32 [7#64] = .instr (.seedPcg32LcgXshrr 7#64) ∧
    decode 0x00000061#32 [7#64] = .instr (.seedPcg32LcgXshrs 7#64) ∧
    decode 0x00000071#32 [7#64] = .instr (.seedPcg32McgXshrr 7#64) ∧
    decode 0x00000081#32 [7#64] = .instr (.seedPcg32McgXshrs 7#64) ∧
    decode 0x00000091#32 [8#64, 9#64] = .instr (.seedPcg64LcgXslrr 8#64 9#64) ∧
    decode 0x000000A1#32 [8#64, 9#64] = .instr (.seedPcg64McgXslrr 8#64 9#64) ∧
    decode 0x000000B1#32 [7#64] = .instr (.seedMt64 7#64) := by decide

theorem test_decode_gen :
    decode 0x00000003#32 [] = .instr (.genXs32 .single) ∧
    decode 0x00018013#32 [] = .instr (.genXs64 (.bulk 1#16)) ∧
    decode 0x00000023#32 [] = .instr (.genXs128 .single) ∧
    decode 0x00038033#32 [] = .instr (.genXs64s (.bulk 3#16)) ∧
    decode 0x00000043#32 [] = .instr (.genXs1024s .single) ∧
    decode 0x00058053#32 [] = .instr (.genPcg32LcgXshrr (.bulk 5#16)) ∧
    decode 0x00000063#32 [] = .instr (.genPcg32LcgXshrs .single) ∧
    decode 0x00078073#32 [] = .instr (.genPcg32McgXshrr (.bulk 7#16)) ∧
    decode 0x00000083#32 [] = .instr (.genPcg32McgXshrs .single) ∧
    decode 0x00098093#32 [] = .instr (.genPcg64LcgXslrr (.bulk 9#16)) ∧
    decode 0x000000A3#32 [] = .instr (.genPcg64McgXslrr .single) ∧
    decode 0x000B80B3#32 [] = .instr (.genMt64 (.bulk 11#16)) := by decide

theorem test_decode_genr :
    decode 0x00000004#32 [] = .instr (.genrXs32 .single) ∧
    decode 0x00018014#32 [] = .instr (.genrXs64 (.bulk 1#16)) ∧
    decode 0x00000024#32 [] = .instr (.genrXs128 .single) ∧
    decode 0x00038034#32 [] = .instr (.genrXs64s (.bulk 3#16)) ∧
    decode 0x00000044#32 [] = .instr (.genrXs1024s .single) ∧
    decode 0x00058054#32 [] = .instr (.genrPcg32LcgXshrr (.bulk 5#16)) ∧
    decode 0x00000064#32 [] = .instr (.genrPcg32LcgXshrs .single) ∧
    decode 0x00078074#32 [] = .instr (.genrPcg32McgXshrr (.bulk 7#16)) ∧
    decode 0x00000084#32 [] = .instr (.genrPcg32McgXshrs .single) ∧
    decode 0x00098094#32 [] = .instr (.genrPcg64LcgXslrr (.bulk 9#16)) ∧
    decode 0x000000A4#32 [] = .instr (.genrPcg64McgXslrr .single) ∧
    decode 0x000B80B4#32 [] = .instr (.genrMt64 (.bulk 11#16)) := by decide

theorem test_decode_genrc :
    decode 0x00000005#32 [] = .instr (.genrcXs32 .single) ∧
    decode 0x00018015#32 [] = .instr (.genrcXs64 (.bulk 1#16)) ∧
    decode 0x00000025#32 [] = .instr (.genrcXs128 .single) ∧
    decode 0x00038035#32 [] = .instr (.genrcXs64s (.bulk 3#16)) ∧
    decode 0x00000045#32 [] = .instr (.genrcXs1024s .single) ∧
    decode 0x00058055#32 [] = .instr (.genrcPcg32LcgXshrr (.bulk 5#16)) ∧
    decode 0x00000065#32 [] = .instr (.genrcPcg32LcgXshrs .single) ∧
    decode 0x00078075#32 [] = .instr (.genrcPcg32McgXshrr (.bulk 7#16)) ∧
    decode 0x00000085#32 [] = .instr (.genrcPcg32McgXshrs .single) ∧
    decode 0x00098095#32 [] = .instr (.genrcPcg64LcgXslrr (.bulk 9#16)) ∧
    decode 0x000000A5#32 [] = .instr (.genrcPcg64McgXslrr .single) ∧
    decode 0x000B80B5#32 [] = .instr (.genrcMt64 (.bulk 11#16)) := by decide

theorem test_decode_genrr :
    decode 0x00000006#32 [8#64, 9#64] = .instr (.genrrXs32 .single 8#64 9#64) ∧
    decode 0x00018016#32 [8#64, 9#64] = .instr (.genrrXs64 (.bulk 1#16) 8#64 9#64) ∧
    decode 0x00000026#32 [8#64, 9#64] = .instr (.genrrXs128 .single 8#64 9#64) ∧
    decode 0x00038036#32 [8#64, 9#64] = .instr (.genrrXs64s (.bulk 3#16) 8#64 9#64) ∧
    decode 0x00000046#32 [8#64, 9#64] = .instr (.genrrXs1024s .single 8#64 9#64) ∧
    decode 0x00058056#32 [8#64, 9#64] = .instr (.genrrPcg32LcgXshrr (.bulk 5#16) 8#64 9#64) ∧
    decode 0x00000066#32 [8#64, 9#64] = .instr (.genrrPcg32LcgXshrs .single 8#64 9#64) ∧
    decode 0x00078076#32 [8#64, 9#64] = .instr (.genrrPcg32McgXshrr (.bulk 7#16) 8#64 9#64) ∧
    decode 0x00000086#32 [8#64, 9#64] = .instr (.genrrPcg32McgXshrs .single 8#64 9#64) ∧
    decode 0x00098096#32 [8#64, 9#64] = .instr (.genrrPcg64LcgXslrr (.bulk 9#16) 8#64 9#64) ∧
    decode 0x000000A6#32 [8#64, 9#64] = .instr (.genrrPcg64McgXslrr .single 8#64 9#64) ∧
    decode 0x000B80B6#32 [8#64, 9#64] = .instr (.genrrMt64 (.bulk 11#16) 8#64 9#64) := by decide

theorem test_decode_seeda_status :
    decode 0x00020042#32 [8#64, 9#64] = .instr (.seedaXs1024s [8#64, 9#64]) ∧
    decode 0x000300B2#32 [7#64, 8#64, 9#64] = .instr (.seedaMt64 [7#64, 8#64, 9#64]) ∧
    decode 0x00000007#32 [] = .instr .status := by decide

/-- 95_test_vectors.md 2.1, the words that fail checks 1 to 4, in the table's order. -/
theorem test_decode_faults :
    ([0x00000000#32, 0x00000008#32, 0x0000000F#32, 0x00000010#32, 0xFFFFFFFF#32].map fun w => decode w []) =
      List.replicate 5 (.fault .illegalOp) ∧
    ([0x000000C3#32, 0x000000F3#32, 0x00000017#32, 0x000000C7#32].map fun w => decode w []) =
      List.replicate 4 (.fault .illegalEngine) ∧
    ([0x00008007#32, 0x00010007#32, 0x00000103#32, 0x00007F03#32, 0x00050003#32, 0x00008001#32, 0x00010001#32,
      0x00018042#32, 0x00000102#32].map fun w => decode w []) = List.replicate 9 (.fault .reservedField) ∧
    ([0x00000041#32, 0x00000012#32].map fun w => decode w []) = List.replicate 2 (.fault .unsupported) := by decide

/-- R399: operand words missing or to spare; and R71: of a faulting word they are discarded. -/
theorem test_decode_operand_counts :
    decode 0x00000021#32 [1#64] = .wrongOperandCount ∧ decode 0x00000003#32 [1#64] = .wrongOperandCount ∧
    decode 0x00100042#32 [1#64] = .wrongOperandCount ∧ decode 0x00000041#32 [3#64, 4#64] = .fault .unsupported := by
  decide

/-- The encoder on the rows of R80 and 95_test_vectors.md 2.1. -/
theorem test_encode_words :
    (encode (.seedaMt64 [0x123#64, 0x234#64, 0x345#64, 0x456#64])).1 = 0x000400B2#32 ∧
    encode (.genXs1024s (.bulk 0#16)) = (0x00008043#32, []) ∧ encode (.genXs32 (.bulk 1#16)) = (0x00018003#32, []) ∧
    encode (.genXs32 (.bulk 65535#16)) = (0xFFFF8003#32, []) ∧ encode (.genrcMt64 .single) = (0x000000B5#32, []) ∧
    encode (.genrrXs128 (.bulk 4#16) 0#64 0x3FF0000000000000#64) = (0x00048026#32, [0#64, 0x3FF0000000000000#64]) ∧
    encode (.seedPcg64McgXslrr 0#64 1#64) = (0x000000A1#32, [0#64, 1#64]) := by decide

/-- A table row's word is delivered with its operand words, zeros above `nbits`, and the next step takes it. -/
theorem test_table_words :
    decodeTableWord 32 0x00000021 = some (.seedXs128 0#64 0#64) ∧
    decodeTableWord 96 (0x21 + 7 * 2 ^ 32) = some (.seedXs128 7#64 0#64) ∧
    decodeTableWord 32 0x00000041 = none ∧
    (State.reset.withFetchWord 32 0x00000024).pending = [.command 0x00000024#32 []] := by decide

/-! ### One command on a small state -/

/-- The response a command gives. -/
def answer (i : Instr) (s : State) : Option Response :=
  match exec i s with
  | .next t => lastResponse t
  | .fault _ => none
  | .refused _ => none

/-- Something of the state a command leaves. -/
def left {α : Type} (f : State → α) (i : Instr) (s : State) : Option α :=
  match exec i s with
  | .next t => some (f t)
  | .fault _ => none
  | .refused _ => none

/-- The status of the response to a transaction, and STATUS after it. -/
def afterStep (s : State) (w : U32) (ops : List U64) : Option (Option (BitVec 4) × U64) :=
  match step (deliverFirst w ops s) with
  | .next t => some ((lastResponse t).map Response.status, statusWord t.toBlock)
  | .fault _ => none
  | .refused _ => none

/-- OK with these words. -/
def ok (ws : List U64) : Option Response := some ⟨0#4, ws⟩

/-- The seeds of 95_test_vectors.md 2.6, every engine seeded, with MT64 in the middle of an array of zeros. -/
def seeds : State :=
  { State.reset with
    xs32 := ⟨1#32, true⟩
    xs64 := ⟨1#64, true⟩
    xs128 := ⟨0x075BCD15#32, 0x159A55E5#32, 0x1F123BB5#32, 0x05491333#32, true⟩
    xs64s := ⟨1#64, true⟩
    xs1024s := ⟨⟨#[1, 2, 3, 4, 5, 6, 7, 8, 9, 10, 11, 12, 13, 14, 15, 16], rfl⟩, 0#4, true⟩
    pcg32LcgXshrr := ⟨0x1818729182367349#64, true⟩
    pcg32LcgXshrs := ⟨0x1818729182367349#64, true⟩
    pcg32McgXshrr := ⟨0x1818729182367349#64, true⟩
    pcg32McgXshrs := ⟨0x1818729182367349#64, true⟩
    pcg64LcgXslrr := ⟨0xDEADBEEFCAFEBABE0123456789ABCDEF#128, true⟩
    pcg64McgXslrr := ⟨0xDEADBEEFCAFEBABE0123456789ABCDEF#128, true⟩
    mt64 := ⟨List.replicate 312 0#64, 5#9⟩ }

/-- MT64 after `SEEDA.MT64` with the key of 95_test_vectors.md 1.5. -/
def mtKeyed : State :=
  { State.reset with
    mt64 := ⟨mtInitByArray params [0x123#64, 0x234#64, 0x345#64, 0x456#64], 312#9⟩ }

/-- MT64 with one word to return. -/
def mtDrawn : State :=
  { State.reset with mt64 := ⟨0x183523EFD9123B01#64 :: List.replicate 311 0#64, 0#9⟩ }

/-- −1000.0 and 1000.0 (95_test_vectors.md 1.8). -/
def lo : U64 := 0xC08F400000000000#64

@[inherit_doc lo] def hi : U64 := 0x408F400000000000#64

/-! Seeding. -/

theorem test_seed_xs32_ignores_the_upper_half :
    left (fun t => t.xs32) (.seedXs32 0xFFFFFFFF00000001#64) State.reset = some ⟨1#32, true⟩ := by decide

theorem test_seed_xs64 : left (fun t => t.xs64) (.seedXs64 0x0139408DCBBF7A44#64) State.reset =
    some ⟨0x0139408DCBBF7A44#64, true⟩ := by decide

theorem test_seed_xs128_high_word_first :
    left (fun t => t.xs128) (.seedXs128 0x075BCD15159A55E5#64 0x1F123BB505491333#64) State.reset =
      some seeds.xs128 := by decide

theorem test_seed_xs64s_zero_is_stored : left (fun t => t.xs64s) (.seedXs64s 0#64) seeds = some ⟨0#64, true⟩ := by
  decide

theorem test_seed_pcg32 :
    left (fun t => t.pcg32LcgXshrr) (.seedPcg32LcgXshrr 0#64) seeds = some ⟨0#64, true⟩ ∧
    left (fun t => t.pcg32LcgXshrs) (.seedPcg32LcgXshrs 5#64) State.reset = some ⟨5#64, true⟩ ∧
    left (fun t => t.pcg32McgXshrr) (.seedPcg32McgXshrr 6#64) State.reset = some ⟨6#64, true⟩ ∧
    left (fun t => t.pcg32McgXshrs) (.seedPcg32McgXshrs 7#64) State.reset = some ⟨7#64, true⟩ := by decide

theorem test_seed_pcg64_high_word_first :
    left (fun t => t.pcg64LcgXslrr) (.seedPcg64LcgXslrr 0xDEADBEEFCAFEBABE#64 0x0123456789ABCDEF#64) State.reset =
      some seeds.pcg64LcgXslrr ∧
    left (fun t => t.pcg64McgXslrr) (.seedPcg64McgXslrr 0#64 1#64) State.reset = some ⟨1#128, true⟩ := by decide

/-- 95_test_vectors.md 1.9: word 0 is not masked, words 1 and 311 are. -/
theorem test_seed_mt64 :
    left (fun t => (t.mt64.mt.getD 0 0, t.mt64.mt.getD 1 0, t.mt64.mt.getD 311 0, t.mt64.idx)) (.seedMt64 5489#64)
      State.reset = some (0x1571#64, 0x1514554511415154#64, 0x1141451554001541#64, 312#9) := by decide +kernel

theorem test_seeda_xs1024s :
    left (fun t => t.xs1024s) (.seedaXs1024s [1, 2, 3, 4, 5, 6, 7, 8, 9, 10, 11, 12, 13, 14, 15, 16])
      State.reset = some seeds.xs1024s := by decide

/-- 95_test_vectors.md 2.8, last row: the fault does not seed. -/
theorem test_seeda_xs1024s_bad_key_length :
    afterStep State.reset 0x000F0042#32 (List.replicate 15 1#64) = some (some 6#4, 0x661#64) := by decide

/-- 95_test_vectors.md 1.9 and 2.4, PROFILE_REF: what the published reference gives, and the final tempering step. -/
theorem test_profile_ref :
    mtTemper profileRef ((mtTwist profileRef (mtInitGenrand profileRef 5489#64)).getD 0 0) = 0xC96D191CF6F6AEA6#64 ∧
    mtTemper profileRef 0x0123456789ABCDEF#64 = 0x2254DA7001198660#64 := by decide +kernel

theorem test_seeda_mt64 :
    left (fun t => (t.mt64.mt.getD 0 0, t.mt64.idx)) (.seedaMt64 [1#64]) State.reset =
      some (0x8000000000000000#64, 312#9) ∧ afterStep seeds 0x000000B2#32 [] = some (some 5#4, 0xFFF0551#64) := by
  decide +kernel

/-! GEN (95_test_vectors.md 2.2, 2.3, 2.4). -/

theorem test_gen_xs32 : answer (.genXs32 (.bulk 3#16)) seeds = ok [0x00042021#64, 0x04080601#64, 0x9DCCA8C5#64] := by
  decide

theorem test_gen_xs64 :
    answer (.genXs64 (.bulk 3#16)) seeds = ok [0x40822041#64, 0x100041060C011441#64, 0x9B1E842F6E862629#64] := by decide

theorem test_gen_xs128 :
    answer (.genXs128 .single) seeds = ok [0x159A55E51F123BB5#64, 0x05491333DCA345EA#64] ∧
    left (fun t => t.xs128.s3) (.genXs128 (.bulk 3#16)) seeds = some 2500872618#32 := by decide

theorem test_gen_xs64s :
    answer (.genXs64s .single) seeds = ok [0x47E4CE4B896CDD1D#64] ∧
    left (fun t => t.xs64s.x) (.genXs64s (.bulk 3#16)) seeds = some 0x000D004003202803#64 := by decide

theorem test_gen_xs1024s :
    answer (.genXs1024s (.bulk 3#16)) seeds =
      ok [0xC0562E31B467F91F#64, 0x092B6FABADAFF6D4#64, 0x06A37D6C71BFFB6A#64] := by decide +kernel

/-- Calls 16 and 17: the cursor wraps and slot 1 is written again. -/
theorem test_gen_xs1024s_wraps :
    left (fun t => (t.xs1024s.p, t.xs1024s.s[0], t.xs1024s.s[1])) (.genXs1024s (.bulk 17#16)) seeds =
      some (1#4, 0x0000000801000031#64, 0x8000020881300412#64) := by decide +kernel

theorem test_gen_pcg32_lcg :
    answer (.genPcg32LcgXshrr (.bulk 3#16)) seeds = ok [0x6061D25E#64, 0xB1E8C60D#64, 0x0317EDAD#64] ∧
    answer (.genPcg32LcgXshrs (.bulk 3#16)) seeds = ok [0x61CBC78F#64, 0xC1B31A72#64, 0x7EC9AA79#64] ∧
    left (fun t => t.pcg32LcgXshrr.st) (.genPcg32LcgXshrr .single) seeds = some 0xAE0D9A6BA3A7FC24#64 := by decide

theorem test_gen_pcg32_mcg :
    answer (.genPcg32McgXshrr (.bulk 3#16)) seeds = ok [0x6061D25E#64, 0xE1BAA820#64, 0x8F75D1A0#64] ∧
    answer (.genPcg32McgXshrs (.bulk 3#16)) seeds = ok [0x61CBC78F#64, 0x82072123#64, 0xEBB58052#64] ∧
    left (fun t => t.pcg32McgXshrs.st) (.genPcg32McgXshrs .single) seeds = some 0x9A081EECAC407AD5#64 := by decide

theorem test_gen_pcg64 :
    answer (.genPcg64LcgXslrr (.bulk 3#16)) seeds =
      ok [0x1DF71086AAEEA3BF#64, 0x0F04EB36D1D2C598#64, 0xE7915E753774B7D2#64] ∧
    answer (.genPcg64McgXslrr (.bulk 3#16)) seeds =
      ok [0x1DF71086AAEEA3BF#64, 0xD3B726D79CFB3664#64, 0x994F68910410236E#64] := by decide

/-- The permutations at the largest rotation counts: seeds of all ones (95_test_vectors.md 2.3). -/
theorem test_pcg_permutations_at_all_ones :
    xshRr params (BitVec.allOnes 64) = 0xFFF00001#32 ∧ xshRs params (BitVec.allOnes 64) = 0xFFFFE000#32 ∧
    xslRr params (BitVec.allOnes 128) = 0#64 ∧ xslRr params (1#128 <<< 127) = 0x0000000080000000#64 := by decide

/-- 95_test_vectors.md 1.5: array seeding, one regeneration, tempering. -/
theorem test_gen_mt64_regenerates :
    answer (.genMt64 .single) mtKeyed = ok [0xCFC6D969D4B12E55#64] ∧
    left (fun t => t.mt64.idx) (.genMt64 .single) mtKeyed = some 1#9 := by decide +kernel

theorem test_mt64_temper :
    mtTemper params 1#64 = 0x0040002000020001#64 ∧ mtTemper params (BitVec.allOnes 64) = 0x7BFEEEEFEFAEAAAA#64 ∧
    mtTemper params 0x0123456789ABCDEF#64 = 0x2254DA70011DCCFB#64 := by decide

/-- 95_test_vectors.md 2.1: an unseeded engine faults UNSEEDED, for N = 0 too; a seeded one answers no words. -/
theorem test_gen_bulk_zero :
    answer (.genXs64 (.bulk 0#16)) State.reset = some ⟨7#4, []⟩ ∧ answer (.genXs32 (.bulk 0#16)) seeds = ok [] ∧
    answer (.genMt64 .single) State.reset = some ⟨7#4, []⟩ := by decide

/-! The real commands, first result after seeding (95_test_vectors.md 2.6). -/

theorem test_genr :
    answer (.genrXs32 .single) seeds = ok [0x3F10808400000000#64] ∧
    answer (.genrXs64 .single) seeds = ok [0x3E20208810000000#64] ∧
    answer (.genrXs128 .single) seeds = ok [0x3FB59A55E3E24770#64] ∧
    answer (.genrXs64s .single) seeds = ok [0x3FD1F933944B66E8#64] ∧
    answer (.genrXs1024s .single) seeds = ok [0x3FE80AC5C6D19FE4#64] ∧
    answer (.genrPcg32LcgXshrr .single) seeds = ok [0x3FD8187497800000#64] ∧
    answer (.genrPcg32LcgXshrs .single) seeds = ok [0x3FD872F1E3C00000#64] ∧
    answer (.genrPcg32McgXshrr .single) seeds = ok [0x3FD8187497800000#64] ∧
    answer (.genrPcg32McgXshrs .single) seeds = ok [0x3FD872F1E3C00000#64] ∧
    answer (.genrPcg64LcgXslrr .single) seeds = ok [0x3FBDF710955DD470#64] ∧
    answer (.genrPcg64McgXslrr .single) seeds = ok [0x3FBDF710955DD470#64] := by decide +kernel

theorem test_genrc :
    answer (.genrcXs32 .single) seeds = ok [0x3F10808400108084#64] ∧
    answer (.genrcXs64 .single) seeds = ok [0x3E20208810000001#64] ∧
    answer (.genrcXs128 .single) seeds = ok [0x3FB59A55E3E24771#64] ∧
    answer (.genrcXs64s .single) seeds = ok [0x3FD1F933944B66E9#64] ∧
    answer (.genrcXs1024s .single) seeds = ok [0x3FE80AC5C6D19FE6#64] ∧
    answer (.genrcPcg32LcgXshrr .single) seeds = ok [0x3FD8187497981875#64] ∧
    answer (.genrcPcg32LcgXshrs .single) seeds = ok [0x3FD872F1E3D872F2#64] ∧
    answer (.genrcPcg32McgXshrr .single) seeds = ok [0x3FD8187497981875#64] ∧
    answer (.genrcPcg32McgXshrs .single) seeds = ok [0x3FD872F1E3D872F2#64] ∧
    answer (.genrcPcg64LcgXslrr .single) seeds = ok [0x3FBDF710955DD472#64] ∧
    answer (.genrcPcg64McgXslrr .single) seeds = ok [0x3FBDF710955DD472#64] := by decide +kernel

theorem test_genrr :
    answer (.genrrXs32 .single lo hi) seeds = ok [0xC08F3EFE27F18000#64] ∧
    answer (.genrrXs64 .single lo hi) seeds = ok [0xC08F3FFFFE080764#64] ∧
    answer (.genrrXs128 .single lo hi) seeds = ok [0xC089F9D207DD418F#64] ∧
    answer (.genrrXs64s .single lo hi) seeds = ok [0xC07B6547425CBB02#64] ∧
    answer (.genrrXs1024s .single lo hi) seeds = ok [0x407F6A1490A2D894#64] ∧
    answer (.genrrPcg32LcgXshrr .single lo hi) seeds = ok [0xC06EE07890340000#64] ∧
    answer (.genrrPcg32LcgXshrs .single lo hi) seeds = ok [0xC06D7EFF1E5A0000#64] ∧
    answer (.genrrPcg32McgXshrr .single lo hi) seeds = ok [0xC06EE07890340000#64] ∧
    answer (.genrrPcg32McgXshrs .single lo hi) seeds = ok [0xC06D7EFF1E5A0000#64] ∧
    answer (.genrrPcg64LcgXslrr .single lo hi) seeds = ok [0xC087EF2E738897A3#64] ∧
    answer (.genrrPcg64McgXslrr .single lo hi) seeds = ok [0xC087EF2E738897A3#64] := by decide +kernel

/-- The MT64 row of 95_test_vectors.md 2.6, from an array whose next word tempers to its raw output. -/
theorem test_genr_genrc_genrr_mt64 :
    answer (.genMt64 .single) mtDrawn = ok [0xCFC6D969D4B12E55#64] ∧
    answer (.genrMt64 .single) mtDrawn = ok [0x3FE9F8DB2F52C4B9#64] ∧
    answer (.genrcMt64 .single) mtDrawn = ok [0x3FE9F8DB2F52C4BB#64] ∧
    answer (.genrrMt64 .single lo hi) mtDrawn = ok [0x40837A0C186DA83A#64] := by decide +kernel

/-- 95_test_vectors.md 2.5 and 1.3. -/
theorem test_reals_of_raw_values :
    realOpen params 0xFFFFFFFF#32 = some 0x3FEFFFFFFFE00000#64 ∧
    realClosed params 0x80000000#32 = some 0x3FE0000000100000#64 ∧
    realOpen params 0x3F#64 = some 0#64 ∧ realOpen params 0x40#64 = some 0x3CA0000000000000#64 ∧
    realClosed params 0x40#64 = some 0x3CA0000000000001#64 ∧
    realOpen params (BitVec.allOnes 64) = some 0x3FEFFFFFFFFFFFFF#64 ∧
    realClosed params (BitVec.allOnes 128) = some 0x3FF0000000000000#64 := by decide +kernel

/-- 95_test_vectors.md 2.7: inversion, C4's counterexample, overflow of hi − lo, −0 at both bounds. -/
theorem test_range_map_corners :
    realRange params hi lo (BitVec.allOnes 64) = some 0xC08F3FFFFFFFFFFE#64 ∧
    realRange params hi lo (0 : U64) = some hi ∧
    realRange params 0x3FF0000000000000#64 0x3FF0000000000001#64 (BitVec.allOnes 64) = some 0x3FF0000000000001#64 ∧
    realRange params lo hi 0xFFFFFFFF#32 = some 0x408F3FFFFFC18000#64 ∧
    realRange params 0#64 0x7FF0000000000000#64 (BitVec.allOnes 64) = some 0x7FF0000000000000#64 ∧
    realRange params 0xFFEFFFFFFFFFFFFF#64 0x7FEFFFFFFFFFFFFF#64 0x80000000#32 = some 0x7FF0000000000000#64 ∧
    realRange params 0x8000000000000000#64 0x8000000000000000#64 (0 : U32) = some 0#64 := by decide +kernel

/-- 95_test_vectors.md 2.7: the rows whose result is a NaN, whatever its bits. -/
theorem test_range_map_nans :
    realRange params 0#64 0x7FF0000000000000#64 (0 : U64) = none ∧
    realRange params 0x7FF8000000000000#64 0x3FF0000000000000#64 5#64 = none ∧
    realRange params 0xFFEFFFFFFFFFFFFF#64 0x7FEFFFFFFFFFFFFF#64 (0 : U32) = none := by decide +kernel

/-! STATUS, faults and reset (95_test_vectors.md 2.8, P4). -/

theorem test_status_layout :
    answer .status State.reset = ok [0#64] ∧ answer .status seeds = ok [0xFFF0000#64] ∧
    answer .status { State.reset with xs64 := ⟨1#64, true⟩, faults := ⟨true, 7#4, 3#4⟩ } = ok [0x20371#64] := by decide

/-- P4, lines 1 to 3 and 6: FIRST_CAUSE keeps the first cause, LAST_CAUSE follows. -/
theorem test_step_faults :
    afterStep State.reset 0x00000013#32 [] = some (some 7#4, 0x771#64) ∧
    afterStep { State.reset with faults := ⟨true, 7#4, 5#4⟩ } 0x00000008#32 [] = some (some 1#4, 0x171#64) ∧
    afterStep { State.reset with faults := ⟨true, 7#4, 4#4⟩ } 0x00050003#32 [1#64] = some (some 3#4, 0x371#64) ∧
    afterStep State.reset 0x00000017#32 [] = some (some 2#4, 0x221#64) := by decide

/-- R381: reset takes a seeded and faulted block to the reset values, and answers nothing. -/
theorem test_step_reset :
    step { seeds with pending := [.reset], faults := ⟨true, 7#4, 3#4⟩ } = .next State.reset := rfl

/-- R47's byte order changes the bytes of a word on a link and nothing else. -/
theorem test_ordered_bytes :
    orderedBytes .bigEndian 0x0123456789ABCDEF#64 =
      [0x01#8, 0x23#8, 0x45#8, 0x67#8, 0x89#8, 0xAB#8, 0xCD#8, 0xEF#8] ∧
    orderedBytes .littleEndian 0x0123456789ABCDEF#64 =
      [0xEF#8, 0xCD#8, 0xAB#8, 0x89#8, 0x67#8, 0x45#8, 0x23#8, 0x01#8] := by decide

/-! The assembler (30_encoding.md R78, R80; 95_test_vectors.md 2.1). -/

/-- The command of a line, if there is one. -/
def assembled (line : String) : Option Instr := (assemble line).toOption

theorem test_assemble :
    assembled "SEED.XS128 0x0123456789ABCDEF0011223344556677" =
      some (.seedXs128 0x0123456789ABCDEF#64 0x0011223344556677#64) ∧
    assembled "GENRR.PCG64_LCG_XSLRR -1000.0, 1000.0" = some (.genrrPcg64LcgXslrr .single lo hi) ∧
    assembled "GENRR.XS128 f64:0x0000000000000000, f64:0x3FF0000000000000 n=4" =
      some (.genrrXs128 (.bulk 4#16) 0#64 0x3FF0000000000000#64) ∧
    assembled "GEN.XS1024S n=0 ; no words" = some (.genXs1024s (.bulk 0#16)) ∧
    assembled "STATUS" = some .status := by decide +kernel

/-- Forms outside R78 and pairs outside R75 are refused. -/
theorem test_assemble_refuses :
    assembled "SEED.XS1024S 1" = none ∧ assembled "SEEDA.XS64" = none ∧ assembled "GEN.XS32 n=65536" = none ∧
    assembled "STATUS.XS32" = none ∧ assembled "GEN.XS33" = none := by decide +kernel

/-! ### Witnesses: values that meet each statement's hypotheses together, at the boundaries of its clauses -/

/-- The outcome is a next state. -/
def answersNext (o : Host.Outcome State Fault Refusal) : Bool :=
  match o with
  | .next _ => true
  | .fault _ => false
  | .refused _ => false

theorem next_of_answersNext {o : Host.Outcome State Fault Refusal} (h : answersNext o = true) : ∃ t, o = .next t := by
  cases o with
  | next t => exact ⟨t, rfl⟩
  | fault r => cases h
  | refused r => cases h

/-- A block that has faulted, with the host's next action. -/
def faulted (pending : List HostAction) : State :=
  { seeds with faults := ⟨true, 7#4, 3#4⟩, responses := [⟨7#4, []⟩, ⟨3#4, []⟩], pending := pending }

theorem witness_DecodeOfEncodeIsTheCommand :
    (Instr.seedaXs1024s [1#64]).wellFormed = true ∧ (Instr.seedaMt64 []).wellFormed = true ∧
    (Instr.genrrMt64 (.bulk 65535#16) lo hi).wellFormed = true := by decide

theorem witness_EncodeOfDecodeIsTheTransaction :
    decode 0xFFFF8003#32 [] = .instr (.genXs32 (.bulk 65535#16)) ∧
    decode 0x000200B2#32 [1#64, 2#64] = .instr (.seedaMt64 [1#64, 2#64]) := by decide

/-- One word for each branch, at the ends of its range: the branch's condition, with those before it false. -/
theorem witness_EncodingChecksInOrder :
    (seeds.setPending [.command 0x00000017#32 []]).pending = .command 0x00000017#32 [] :: [] ∧
    ((0x00000010#32).toNat % 16 = 0 ∧ (0x00000008#32).toNat % 16 = 8 ∧ (0xFFFFFFFF#32).toNat % 16 = 15) ∧
    ((0x000000C3#32).toNat / 16 % 16 = 12 ∧ (0x000000F3#32).toNat / 16 % 16 = 15 ∧
      (0x00000017#32).toNat % 16 = 7 ∧ (0x00000017#32).toNat / 16 % 16 = 1) ∧
    ((0x00000103#32).toNat / 256 % 128 = 1 ∧ (0x00007F03#32).toNat / 256 % 128 = 127 ∧
      (0x00018042#32).toNat / 32768 % 2 = 1 ∧ (0x00050003#32).toNat / 65536 = 5 ∧ (0x00010001#32).toNat / 65536 = 1) ∧
    ((0x00000041#32).toNat % 16 = 1 ∧ (0x00000041#32).toNat / 16 % 16 = 4 ∧
      (0x00000012#32).toNat % 16 = 2 ∧ (0x00000012#32).toNat / 16 % 16 = 1) ∧
    decode 0x00000041#32 [] = .fault .unsupported ∧ decode 0x00000021#32 [1#64] = .wrongOperandCount ∧
    decode 0x00000021#32 [1#64, 2#64] = .instr (.seedXs128 1#64 2#64) := by decide

theorem witness_StepRunsTheDecodedCommand :
    (faulted [.command 0x00000003#32 [], .reset]).pending = .command 0x00000003#32 [] :: [.reset] ∧
    decode 0x00000003#32 [] = .instr (.genXs32 .single) := by decide

theorem witness_StepRunsTheEncodedCommand :
    (Instr.seedXs128 1#64 2#64).wellFormed = true ∧
    (faulted [.command 0x00000021#32 [1#64, 2#64]]).pending =
      .command (encode (.seedXs128 1#64 2#64)).1 (encode (.seedXs128 1#64 2#64)).2 :: [] := by decide

theorem witness_StepIdlesAndHoldsItsState : (faulted []).pending = [] := rfl

theorem witness_ResetEventClearsTheBlock :
    (faulted [.reset, .reset]).pending = .reset :: [.reset] ∧
    ∃ s' t', s'.pending = .reset :: [HostAction.reset] ∧ step s' = .next t' :=
  ⟨rfl, seeds.setPending [.reset, .reset], _, rfl, rfl⟩

/-- A step that idles, one that resets, a command that completes and one that faults. -/
theorem witness_OneResponsePerCommand :
    (∃ t, step (faulted []) = .next t) ∧ (∃ t, step (faulted [.reset]) = .next t) ∧
    (∃ t, step (faulted [.command 0x00000003#32 []]) = .next t) ∧
    ∃ t, step (faulted [.command 0x00000008#32 [1#64]]) = .next t :=
  ⟨next_of_answersNext (by decide), next_of_answersNext (by decide), next_of_answersNext (by decide),
    next_of_answersNext (by decide)⟩

theorem witness_AfterResetGenerationFaults :
    generation (.genrrMt64 (.bulk 0#16) lo hi) = some (.mt64, .bulk 0#16) ∧
    generation (.genXs32 .single) = some (.xs32, .single) := ⟨rfl, rfl⟩

/-- The invariant in a state no run starts in: a fault recorded, responses returned, MT64 seeded. -/
theorem witness_Inv (l : List HostAction) : Inv (faulted l) := by
  refine ⟨List.length_replicate, Nat.le_of_ble_eq_true rfl, ?_, ?_⟩
  · simp [faultsOk, faulted]
  · simp [faulted, responseOk]

theorem witness_EveryStepKeepsTheInvariant :
    ∃ s t, Inv s ∧ step s = .next t :=
  have h := next_of_answersNext (o := step (faulted [.command 0x000000B1#32 [5489#64]])) (by decide)
  ⟨_, h.choose, witness_Inv _, h.choose_spec⟩

/-- A transaction that completes and one that faults; then a command that completes, and one for each of the three
causes a decoded command can raise. -/
theorem witness_FaultsChangeOnlyStatus :
    (∃ t, step (faulted [.command 0x00000007#32 []]) = .next t) ∧
    (∃ t, step (faulted [.command 0x000000C3#32 []]) = .next t) ∧ (∃ t, exec .status seeds = .next t) ∧ (∃ t, exec (.seedaMt64 []) seeds = .next t) ∧
    (∃ t, exec (.seedaXs1024s [1#64]) seeds = .next t) ∧ ∃ t, exec (.genXs32 .single) State.reset = .next t :=
  ⟨next_of_answersNext (by decide), next_of_answersNext (by decide), next_of_answersNext (by decide),
    next_of_answersNext (by decide), next_of_answersNext (by decide), next_of_answersNext (by decide)⟩

theorem witness_FaultedAndFirstCauseAreSticky :
    (∃ t, step (faulted [.command 0x00000008#32 []]) = .next t) ∧
    (faulted [.command 0x00000008#32 []]).pending.head? ≠ some .reset ∧
    (faulted [.command 0x00000008#32 []]).faults.faulted = true :=
  ⟨next_of_answersNext (by decide), by decide, rfl⟩

theorem witness_FaultedShowsEveryFault :
    (∃ t, step (faulted [.command 0x00000008#32 []]) = .next t) ∧
    (faulted [.command 0x00000008#32 []]).pending.head? ≠ some .reset ∧
    ((faulted [.command 0x00000008#32 []]).faults.faulted = true ↔
      ∃ r ∈ (faulted [.command 0x00000008#32 []]).responses, r.status ≠ 0#4) ∧
    (seeds.faults.faulted = true ↔ ∃ r ∈ seeds.responses, r.status ≠ 0#4) :=
  ⟨next_of_answersNext (by decide), by decide, by decide, by decide⟩

theorem witness_SeededFlagsFollowSeeding :
    (∃ t, step (faulted [.command 0x00000008#32 []]) = .next t) ∧
    (faulted [.command 0x00000008#32 []]).pending.head? ≠ some .reset ∧ (∀ e, seeded (faulted []).toBlock e = true) ∧
    seeded State.reset.toBlock .mt64 = false ∧
    seeding (.seedMt64 1#64) = some .mt64 ∧ ∃ t, exec (.seedMt64 1#64) State.reset = .next t ∧
      seeded t.toBlock .mt64 = true ∧ (lastResponse t).map Response.status = some 0#4 :=
  ⟨next_of_answersNext (by decide), by decide, by intro e; cases e <;> decide, by decide, rfl, _, rfl, by decide, rfl⟩

theorem witness_UnseededGenerationFaults :
    generation (.genrrMt64 (.bulk 0#16) lo hi) = some (.mt64, .bulk 0#16) ∧
    ∀ e, seeded State.reset.toBlock e = false := ⟨rfl, by intro e; cases e <;> decide⟩

theorem witness_SeedaXs1024sStoresTheKey :
    (List.replicate 16 7#64).length = 16 ∧
    ((List.replicate 15 7#64).length ≠ 16 ∧ (List.replicate 15 7#64).length ≤ 65535) ∧
    ((List.replicate 17 7#64).length ≠ 16 ∧ (List.replicate 17 7#64).length ≤ 65535) ∧
    ((List.replicate 65535 7#64).length ≠ 16 ∧ (List.replicate 65535 7#64).length ≤ 65535) := by
  simp only [List.length_replicate]; decide

theorem witness_SeedMt64FollowsTheRecurrence : (1 ≤ 1 ∧ 1 ≤ 311) ∧ (1 ≤ 311 ∧ 311 ≤ 311) := by decide

theorem witness_SeedaMt64Completes :
    ([] : List U64) = [] ∧ ([0#64] ≠ [] ∧ [0#64].length ≤ 65535) ∧ (List.replicate 65535 0#64).length ≤ 65535 := by
  simp only [List.length_replicate]; decide

theorem witness_OverlongKeysAreRefused : 65535 < (List.replicate 65536 0#64).length := by
  simp only [List.length_replicate]; decide

theorem witness_SeedingForgetsTheEngine :
    seeding (.seedMt64 1#64) = some .mt64 ∧
    ∃ t t', exec (.seedMt64 1#64) seeds = .next t ∧ exec (.seedMt64 1#64) State.reset = .next t' ∧
      lastResponse t = some ⟨0#4, []⟩ := ⟨rfl, _, _, rfl, rfl, rfl⟩

/-- Every engine is ready in `seeds`, MT64 at both ends of its cursor's range too. -/
theorem witness_Ready (e : Engine) :
    Ready e seeds ∧ Ready .mt64 (seeds.setMt64 ⟨seeds.mt64.mt, 0#9⟩) ∧
      Ready .mt64 (seeds.setMt64 ⟨seeds.mt64.mt, 312#9⟩) := by
  refine ⟨⟨?_, fun _ => by decide⟩, ⟨by decide, fun _ => by decide⟩, ⟨by decide, fun _ => by decide⟩⟩
  cases e <;> decide

theorem witness_GenXorshiftOneWord :
    seeds.xs32.seeded = true ∧ seeds.xs64.seeded = true ∧ seeds.xs64s.seeded = true := by decide

theorem witness_GenXs128TwoWords : seeds.xs128.seeded = true := rfl

/-- The cursor at both ends of the ring. -/
theorem witness_GenXs1024sOneWord :
    seeds.xs1024s.seeded = true ∧ seeds.xs1024s.s[0]? = some 1#64 ∧ seeds.xs1024s.s[1]? = some 2#64 ∧
    (seeds.setXs1024s ⟨seeds.xs1024s.s, 15#4, true⟩).xs1024s.seeded = true ∧ seeds.xs1024s.s[15]? = some 16#64 := by
  decide

theorem witness_GenPcg32OneWord :
    seeds.pcg32LcgXshrr.seeded = true ∧ seeds.pcg32LcgXshrs.seeded = true ∧ seeds.pcg32McgXshrr.seeded = true ∧
    seeds.pcg32McgXshrs.seeded = true := by decide

theorem witness_GenPcg64OneWord : seeds.pcg64LcgXslrr.seeded = true ∧ seeds.pcg64McgXslrr.seeded = true := by decide

/-- Below 312 at both ends, and at 312. -/
theorem witness_GenMt64OneWord :
    mtDrawn.mt64.idx.toNat ≤ 311 ∧ (mtDrawn.setMt64 ⟨mtDrawn.mt64.mt, 311#9⟩).mt64.idx.toNat ≤ 311 ∧
    mtKeyed.mt64.idx.toNat = 312 := by decide

theorem witness_TwistRegeneratesEveryWord :
    seeds.mt64.mt.length = 312 ∧ (0 < 312 ∧ 155 < 312 ∧ 156 < 312 ∧ 311 < 312) :=
  ⟨List.length_replicate, by decide⟩

theorem witness_GenerationCompletes : ∀ e, Ready e seeds := fun e => (witness_Ready e).1

theorem witness_ZeroRepetitionsChangeNothing :
    generation (.genrcMt64 (.bulk 0#16)) = some (.mt64, .bulk 0#16) ∧ Ready .mt64 seeds :=
  ⟨rfl, (witness_Ready _).1⟩

theorem witness_BulkEqualsSingles :
    generation (.genrrXs128 (.bulk 0#16) lo hi) = some (.xs128, .bulk 0#16) ∧
    generation (.genMt64 (.bulk 65535#16)) = some (.mt64, .bulk 65535#16) ∧ Ready .xs128 seeds ∧
    Ready .mt64 (seeds.setMt64 ⟨seeds.mt64.mt, 312#9⟩) :=
  ⟨rfl, rfl, (witness_Ready .xs128).1, (witness_Ready .mt64).2.2⟩

/-- Two states that agree on XS32 only: one seeded throughout, one not. -/
theorem witness_EnginesAreIndependent :
    generation (.genXs32 .single) = some (.xs32, .single) ∧
    sameEngine .xs32 seeds.toBlock (State.reset.setXs32 ⟨1#32, true⟩).toBlock ∧
    seeds.draws = (State.reset.setXs32 ⟨1#32, true⟩).draws ∧ (∃ t, exec (.genXs32 .single) seeds = .next t) ∧
    seeding (.seedMt64 1#64) = some .mt64 ∧ sameEngine .mt64 State.reset.toBlock State.reset.toBlock ∧
    ∃ t, exec (.seedMt64 1#64) State.reset = .next t :=
  ⟨rfl, rfl, rfl, ⟨_, rfl⟩, rfl, rfl, ⟨_, rfl⟩⟩

theorem witness_CommandsOnDifferentEnginesCommute :
    Engine.xs32 ≠ Engine.mt64 ∧ generation (.genXs32 .single) = some (.xs32, .single) ∧
    seeding (.seedMt64 1#64) = some .mt64 ∧ (∃ t, execAll [.genXs32 .single, .seedMt64 1#64] seeds = .next t) ∧
    ∃ u, execAll [.seedMt64 1#64, .genXs32 .single] seeds = .next u :=
  ⟨by decide, rfl, rfl, ⟨_, rfl⟩, ⟨_, rfl⟩⟩

theorem witness_ZeroStateIsAFixedPoint :
    (seeds.setXs32 ⟨0, true⟩).xs32 = ⟨0, true⟩ ∧ (seeds.setXs64 ⟨0, true⟩).xs64 = ⟨0, true⟩ ∧
    (seeds.setXs128 ⟨0, 0, 0, 0, true⟩).xs128 = ⟨0, 0, 0, 0, true⟩ ∧
    (seeds.setXs64s ⟨0, true⟩).xs64s = ⟨0, true⟩ ∧
    (seeds.setXs1024s ⟨Vector.replicate 16 0#64, 15#4, true⟩).xs1024s.s = Vector.replicate 16 0#64 ∧
    (seeds.setXs1024s ⟨Vector.replicate 16 0#64, 15#4, true⟩).xs1024s.seeded = true :=
  ⟨rfl, rfl, rfl, rfl, rfl, rfl⟩

theorem witness_RingCursorWraps : seeds.xs1024s.seeded = true ∧ (16#16 : BitVec 16) = 16#16 := ⟨rfl, rfl⟩

theorem witness_McgKeepsTrailingZeros :
    (0 ≤ 64 ∧ 64 ≤ 64 ∧ 128 ≤ 128) ∧
    (seeds.pcg32McgXshrr.seeded = true ∧ ∃ t, exec (.genPcg32McgXshrr .single) seeds = .next t) ∧
    (seeds.pcg32McgXshrs.seeded = true ∧ ∃ t, exec (.genPcg32McgXshrs (.bulk 2#16)) seeds = .next t) ∧
    (seeds.pcg64McgXslrr.seeded = true ∧ ∃ t, exec (.genPcg64McgXslrr (.bulk 0#16)) seeds = .next t) ∧
    (seeds.setPcg32McgXshrr ⟨0, true⟩).pcg32McgXshrr = ⟨0, true⟩ ∧
    (seeds.setPcg32McgXshrs ⟨0, true⟩).pcg32McgXshrs = ⟨0, true⟩ ∧
    (seeds.setPcg64McgXslrr ⟨0, true⟩).pcg64McgXslrr = ⟨0, true⟩ :=
  ⟨by decide, ⟨rfl, next_of_answersNext (by decide)⟩, ⟨rfl, next_of_answersNext (by decide)⟩,
    ⟨rfl, next_of_answersNext (by decide)⟩, rfl, rfl, rfl⟩

/-- The ends of a batch, and of the count. -/
theorem witness_BatchBoundary :
    mtKeyed.mt64.idx = 312#9 ∧ 1 ≤ (1#16 : BitVec 16).toNat ∧ 1 ≤ (312#16 : BitVec 16).toNat ∧
    1 ≤ (313#16 : BitVec 16).toNat ∧ 1 ≤ (65535#16 : BitVec 16).toNat := by decide

/-- Zero, 1, the largest finite binary64, and 1/3 of the smallest subnormal. -/
theorem witness_RoundingIsNearestEven :
    roundMag 0 1074 < f64InfBits ∧ roundMag (2 ^ 1074) 1074 < f64InfBits ∧
    roundMag ((2 ^ 53 - 1) * 2 ^ 971 * 2 ^ 1074) 1074 < f64InfBits ∧ (1074 ≤ 1076 ∧ roundMag 1 1076 < f64InfBits) := by
  decide +kernel

theorem witness_OverflowRoundsToInfinity : 1074 ≤ 1074 ∧ 1074 ≤ 2148 := by decide

/-- Each clause: an exact zero sum of either sign, a sum below the overflow threshold and sums past it. -/
theorem witness_AdditionOfFinitesIsRounded :
    (f64Exp 0x7FEFFFFFFFFFFFFF#64 < 2047 ∧ f64Exp 0#64 < 2047 ∧ f64Exp 0x8000000000000000#64 < 2047) ∧
    (f64Int lo + f64Int hi = 0 ∧ f64Int 0x8000000000000000#64 + f64Int 0x8000000000000000#64 = 0) ∧
    (f64Int lo + f64Int lo ≠ 0 ∧ (f64Int lo + f64Int lo).natAbs < (2 ^ 54 - 1) * 2 ^ 970 * 2 ^ 1074) ∧
    (2 ^ 54 - 1) * 2 ^ 970 * 2 ^ 1074 ≤ (f64Int 0x7FEFFFFFFFFFFFFF#64 + f64Int 0x7FEFFFFFFFFFFFFF#64).natAbs ∧
    (2 ^ 54 - 1) * 2 ^ 970 * 2 ^ 1074 = (f64Int 0x7FEFFFFFFFFFFFFF#64 + f64Int 0x7C90000000000000#64).natAbs := by
  decide +kernel

/-- Both sides of the overflow threshold, and a zero product. -/
theorem witness_ProductOfFinitesIsRounded :
    (f64Exp 0xFFEFFFFFFFFFFFFF#64 < 2047 ∧ f64Exp 1#64 < 2047 ∧ f64Exp 0x8000000000000000#64 < 2047) ∧
    f64Mag 0xFFEFFFFFFFFFFFFF#64 * f64Mag 1#64 < (2 ^ 54 - 1) * 2 ^ 970 * 2 ^ 2148 ∧
    (2 ^ 54 - 1) * 2 ^ 970 * 2 ^ 2148 ≤ f64Mag 0xFFEFFFFFFFFFFFFF#64 * f64Mag 0xFFEFFFFFFFFFFFFF#64 ∧
    f64Mag 1#64 * f64Mag 0x8000000000000000#64 = 0 := by
  decide +kernel

theorem witness_GenrReturnsOpenReals : ∀ e, Ready e seeds := fun e => (witness_Ready e).1

theorem witness_GenrcReturnsClosedReals : ∀ e, Ready e seeds := fun e => (witness_Ready e).1

theorem witness_GenrrReturnsTheAffineMap : ∀ e, Ready e seeds := fun e => (witness_Ready e).1

theorem witness_RealsAreMonotone :
    (realOpen params 1#32 = some 0x3DF0000000000000#64 ∧ realClosed params 0xFFFFFFFF#32 = some 0x3FF0000000000000#64) ∧
    (realOpen params 0x40#64 = some 0x3CA0000000000000#64 ∧ realClosed params 0x40#64 = some 0x3CA0000000000001#64) ∧
    (realOpen params (0 : U128) = some 0#64 ∧ realClosed params (BitVec.allOnes 128) = some 0x3FF0000000000000#64) := by
  decide +kernel

/-- First clause: lo = −0 with hi − lo = +0 and with hi − lo negative, and lo = −1000; second: lo = −0. -/
theorem witness_RangeMapAtTheLowerBound :
    (f64Exp 0x8000000000000000#64 < 2047 ∧ f64Sub 0#64 0x8000000000000000#64 = some 0#64 ∧ f64Exp 0#64 < 2047) ∧
    (f64Sub lo 0x8000000000000000#64 = some lo ∧ f64Sign lo = true ∧ f64Exp lo < 2047) ∧
    (f64Exp hi < 2047 ∧ f64Sub hi lo = some 0x409F400000000000#64 ∧ f64Exp 0x409F400000000000#64 < 2047) ∧
    FiniteNonneg 0x3FEFFFFFFFFFFFFF#64 ∧ FiniteNonneg 0#64 := by
  simp only [FiniteNonneg]; decide +kernel

/-- Bounds in either order, a subnormal apart, and the least and the largest r. -/
theorem witness_RangeMapStaysBetweenItsBounds :
    (f64Exp lo < 2047 ∧ f64Exp hi < 2047) ∧
    (f64Sub hi lo = some 0x409F400000000000#64 ∧ f64Exp 0x409F400000000000#64 < 2047) ∧
    (f64Sub lo hi = some 0xC09F400000000000#64 ∧ f64Exp 0xC09F400000000000#64 < 2047) ∧
    (f64Exp 1#64 < 2047 ∧ f64Exp 2#64 < 2047 ∧ f64Sub 2#64 1#64 = some 1#64) ∧
    (FiniteNonneg 0#64 ∧ (0#64).toNat ≤ 0x3FEFFFFFFFFFFFFF) ∧
    (FiniteNonneg 0x3FEFFFFFFFFFFFFF#64 ∧ (0x3FEFFFFFFFFFFFFF#64).toNat ≤ 0x3FEFFFFFFFFFFFFF) := by
  simp only [FiniteNonneg]; decide +kernel

/-- A NaN for each bound; −MAX to MAX, whose difference overflows, with the least and the largest r. -/
theorem witness_RangeMapOutsideTheFinite :
    f64IsNaN 0x7FF8000000000000#64 = true ∧ f64IsNaN 0xFFF0000000000001#64 = true ∧
    f64Sub 0x7FEFFFFFFFFFFFFF#64 0xFFEFFFFFFFFFFFFF#64 = some 0x7FF0000000000000#64 ∧
    f64Exp 0xFFEFFFFFFFFFFFFF#64 < 2047 ∧ FiniteNonneg 1#64 ∧ FiniteNonneg 0x3FEFFFFFFFFFFFFF#64 := by
  simp only [FiniteNonneg]; decide +kernel

theorem witness_AssembledLinesAreValidCommands : (assemble "SEEDA.MT64 0").isOk = false ∧
    ∃ i, assemble "GEN.XS32 n=3" = .ok i :=
  ⟨by decide +kernel, .genXs32 (.bulk 3#16), by decide +kernel⟩

end Sys2Proof.Tests
end

section
/-! SUPPORT. Binary64 arithmetic (00_scope.md R8): the magnitude as a strictly increasing function of the magnitude
bits, `fl` as the choice between the two magnitudes around a value, and the statements about `fl`, + and × that follow
from it. -/

namespace Sys2Proof.Machine

open Sys2Proof.Safety

/-! ### Magnitude bits -/

/-- The magnitude of the bits `b` in units of 2^-1074, for every natural number `b`: `f64Mag` without the limit of
63 bits. -/
def magOfBits (b : Nat) : Nat := (b - (b / 2 ^ 52 - 1) * 2 ^ 52) * 2 ^ (b / 2 ^ 52 - 1)

/-- A significand `q` at the place `x` of the exponent scale, its carry into the next exponent included. -/
theorem magOfBits_at_place {x q : Nat} (hq : q ≤ 2 ^ 53) (hx : x = 0 ∨ 2 ^ 52 ≤ q) :
    magOfBits (x * 2 ^ 52 + q) = q * 2 ^ x := by
  unfold magOfBits
  obtain hlt | rfl := Nat.lt_or_eq_of_le hq
  · rw [show (x * 2 ^ 52 + q) / 2 ^ 52 - 1 = x by omega, Nat.add_sub_cancel_left]
  · rw [show (x * 2 ^ 52 + 2 ^ 53) / 2 ^ 52 - 1 = x + 1 by omega,
      show x * 2 ^ 52 + 2 ^ 53 - (x + 1) * 2 ^ 52 = 2 ^ 52 by omega, Nat.pow_succ]
    omega

theorem magOfBits_strictMono : StrictMono magOfBits := by
  refine strictMono_nat_of_lt_succ fun b => ?_
  obtain ⟨x, q, hq, hx, rfl⟩ : ∃ x q, q < 2 ^ 53 ∧ (x = 0 ∨ 2 ^ 52 ≤ q) ∧ b = x * 2 ^ 52 + q :=
    ⟨b / 2 ^ 52 - 1, b - (b / 2 ^ 52 - 1) * 2 ^ 52, by omega, by omega, by omega⟩
  rw [Nat.add_assoc, magOfBits_at_place hq.le hx, magOfBits_at_place hq (hx.imp_right Nat.le_succ_of_le)]
  exact Nat.mul_lt_mul_of_pos_right (Nat.lt_succ_self q) (Nat.two_pow_pos x)

/-- Magnitudes counted in units of 2^-1074 over 2^e. -/
theorem magOfBits_mul_strictMono (e : Nat) : StrictMono fun b => magOfBits b * 2 ^ e :=
  magOfBits_strictMono.mul_const (Nat.two_pow_pos e)

theorem f64Exp_eq (u : U64) : f64Exp u = u.toNat % 2 ^ 63 / 2 ^ 52 := by
  simp only [f64Exp, BitVec.extractLsb'_toNat, Nat.shiftRight_eq_div_pow]
  omega

theorem f64Frac_eq (u : U64) : f64Frac u = u.toNat % 2 ^ 63 % 2 ^ 52 := by
  simp only [f64Frac, BitVec.extractLsb'_toNat, Nat.shiftRight_eq_div_pow]
  omega

/-- The two cases of `f64Mag` are one formula in the magnitude bits. -/
theorem f64Mag_eq (u : U64) : f64Mag u = magOfBits (u.toNat % 2 ^ 63) := by
  rw [f64Mag, f64Exp_eq, f64Frac_eq, magOfBits]
  generalize u.toNat % 2 ^ 63 = b
  split
  · rw [show b / 2 ^ 52 - 1 = 0 by omega, Nat.mod_eq_of_lt (by omega)]
    simp
  · congr 1
    omega

theorem toNat_f64Pack (neg : Bool) {b : Nat} (h : b < 2 ^ 63) :
    (f64Pack neg b).toNat = neg.toNat * 2 ^ 63 + b := by
  rw [f64Pack, toNat_append_add, BitVec.toNat_ofBool, BitVec.toNat_ofNat, Nat.mod_eq_of_lt h]

theorem bits_f64Pack (neg : Bool) {b : Nat} (h : b < 2 ^ 63) : (f64Pack neg b).toNat % 2 ^ 63 = b := by
  rw [toNat_f64Pack neg h]
  omega

@[simp] theorem f64Sign_f64Pack (neg : Bool) (b : Nat) : f64Sign (f64Pack neg b) = neg := by
  simp only [f64Sign, f64Pack, BitVec.getLsbD_append]
  simp

theorem f64Mag_f64Pack (neg : Bool) {b : Nat} (h : b < 2 ^ 63) : f64Mag (f64Pack neg b) = magOfBits b := by
  rw [f64Mag_eq, bits_f64Pack neg h]

/-! ### `fl` chooses between the two magnitudes around a value -/

/-- The value `m / 2^e` units lies from the magnitude of the bits `l` up to, and not at, that of `l + 1`. -/
def Brackets (m e l : Nat) : Prop := magOfBits l * 2 ^ e ≤ m ∧ m < magOfBits (l + 1) * 2 ^ e

/-- `l + 1` from the midpoint of the two magnitudes on, but for an even `l` only above it; otherwise `l`. -/
def nearerBits (m e l : Nat) : Nat :=
  if (magOfBits l + magOfBits (l + 1)) * 2 ^ e < 2 * m ∨
      ((magOfBits l + magOfBits (l + 1)) * 2 ^ e = 2 * m ∧ l % 2 = 1) then l + 1 else l

/-- At the place of rounding at most 53 significant bits are left. -/
theorem div_roundPlace_lt (m k : Nat) : m / 2 ^ roundPlace m k < 2 ^ 53 := by
  rw [Nat.div_lt_iff_lt_mul (Nat.two_pow_pos _), ← Nat.pow_add]
  refine Nat.lt_of_lt_of_le Nat.lt_log2_self (Nat.pow_le_pow_right (by decide) ?_)
  unfold roundPlace
  omega

/-- Above the least place, 2^-1074, exactly 53 significant bits are left. -/
theorem le_div_roundPlace {m k : Nat} (h : k - 1074 < roundPlace m k) : 2 ^ 52 ≤ m / 2 ^ roundPlace m k := by
  unfold roundPlace at h ⊢
  have hm : m ≠ 0 := by
    rintro rfl
    simp at h
  rw [Nat.le_div_iff_mul_le (Nat.two_pow_pos _), ← Nat.pow_add,
    show 52 + max (Nat.log2 m + 1 - 53) (k - 1074) = Nat.log2 m by omega]
  exact Nat.log2_self_le hm

/-- The significand left at the place of rounding and its successor are the two magnitudes around the value, so rounding
the bits shifted out is choosing the nearer of them. -/
theorem roundMag_brackets (m e : Nat) :
    ∃ l, Brackets m e l ∧ roundMag m (e + 1074) = min (nearerBits m e l) f64InfBits := by
  obtain ⟨x, hx⟩ : ∃ x, roundPlace m (e + 1074) = x + e :=
    ⟨roundPlace m (e + 1074) - e, by unfold roundPlace; omega⟩
  have hlt := div_roundPlace_lt m (e + 1074)
  have hle : x = 0 ∨ 2 ^ 52 ≤ m / 2 ^ roundPlace m (e + 1074) :=
    (Nat.eq_zero_or_pos x).imp_right fun h => le_div_roundPlace (by omega)
  simp only [roundMag, roundShift, Nat.add_sub_cancel]
  rw [hx] at hlt hle ⊢
  have hm := Nat.div_add_mod' m (2 ^ (x + e))
  have hr := Nat.mod_lt m (Nat.two_pow_pos (x + e))
  generalize m / 2 ^ (x + e) = q at hlt hle hm ⊢
  generalize m % 2 ^ (x + e) = r at hm hr ⊢
  have hl : magOfBits (x * 2 ^ 52 + q) * 2 ^ e = q * 2 ^ (x + e) := by
    rw [magOfBits_at_place hlt.le hle, Nat.mul_assoc, ← Nat.pow_add]
  have hu : magOfBits (x * 2 ^ 52 + q + 1) * 2 ^ e = q * 2 ^ (x + e) + 2 ^ (x + e) := by
    rw [Nat.add_assoc, magOfBits_at_place hlt (hle.imp_right Nat.le_succ_of_le), Nat.mul_assoc, ← Nat.pow_add,
      Nat.succ_mul]
  refine ⟨x * 2 ^ 52 + q, ⟨by omega, by omega⟩, ?_⟩
  rw [nearerBits, Nat.add_mul, hl, hu, Nat.add_sub_cancel]
  congr 1
  split <;> split <;> omega

/-- The chosen one of the two is as near as any other magnitude, and even on a tie: every other one lies below both
or above both. -/
theorem nearerBits_isNearest {m e l : Nat} (h : Brackets m e l) (b : Nat) :
    Safety.dist (magOfBits (nearerBits m e l) * 2 ^ e) m ≤ Safety.dist (magOfBits b * 2 ^ e) m ∧
      (Safety.dist (magOfBits (nearerBits m e l) * 2 ^ e) m = Safety.dist (magOfBits b * 2 ^ e) m →
        b ≠ nearerBits m e l → nearerBits m e l % 2 = 0) := by
  obtain ⟨hl, hu⟩ := h
  unfold nearerBits Safety.dist
  rw [Nat.add_mul]
  obtain hb | hb := Nat.lt_or_ge l b
  · have hle : magOfBits (l + 1) * 2 ^ e ≤ magOfBits b * 2 ^ e := (magOfBits_mul_strictMono e).monotone hb
    have hlt : l + 1 < b → magOfBits (l + 1) * 2 ^ e < magOfBits b * 2 ^ e := fun h => magOfBits_mul_strictMono e h
    split <;> omega
  · have hle : magOfBits b * 2 ^ e ≤ magOfBits l * 2 ^ e := (magOfBits_mul_strictMono e).monotone hb
    have hlt : b < l → magOfBits b * 2 ^ e < magOfBits l * 2 ^ e := fun h => magOfBits_mul_strictMono e h
    split <;> omega

theorem dist_mul_two_pow (a m e j : Nat) :
    Safety.dist (a * 2 ^ (e + j)) (m * 2 ^ j) = Safety.dist (a * 2 ^ e) m * 2 ^ j := by
  rw [Nat.pow_add, ← Nat.mul_assoc]
  simp only [Safety.dist, Nat.add_mul, Nat.sub_mul]

/-- `NearestEven`, counted in units of 2^-1074 over 2^e. -/
theorem nearestEven_iff {m e b : Nat} (hb : b < f64InfBits) :
    NearestEven m (e + 1074) b ↔ ∀ b', b' < f64InfBits →
      Safety.dist (magOfBits b * 2 ^ e) m ≤ Safety.dist (magOfBits b' * 2 ^ e) m ∧
        (Safety.dist (magOfBits b * 2 ^ e) m = Safety.dist (magOfBits b' * 2 ^ e) m → b' ≠ b → b % 2 = 0) := by
  have hscale : ∀ c, c < f64InfBits → Safety.dist (f64Mag (f64Pack false c) * 2 ^ (e + 1074)) (m * 2 ^ 1074) =
      Safety.dist (magOfBits c * 2 ^ e) m * 2 ^ 1074 := fun c hc => by
    rw [f64Mag_f64Pack false (Nat.lt_trans hc (by decide)), dist_mul_two_pow]
  simp only [NearestEven, hb, true_and]
  refine forall₂_congr fun b' hb' => ?_
  rw [hscale b hb, hscale b' hb', Nat.mul_le_mul_right_iff (Nat.two_pow_pos _),
    Nat.mul_left_inj (Nat.two_pow_pos _).ne']

theorem roundMag_nearestEven {m k : Nat} (hk : 1074 ≤ k) (h : roundMag m k < f64InfBits) :
    NearestEven m k (roundMag m k) := by
  obtain ⟨e, rfl⟩ := Nat.exists_eq_add_of_le' hk
  obtain ⟨l, hl, hr⟩ := roundMag_brackets m e
  rw [nearestEven_iff h, show roundMag m (e + 1074) = nearerBits m e l by omega]
  exact fun b _ => nearerBits_isNearest hl b

/-! ### Overflow -/

/-- The overflow threshold is the midpoint of the largest finite magnitude and the one the infinity's bits would
have. -/
theorem overflow_midpoint (e : Nat) :
    (magOfBits (f64InfBits - 1) + magOfBits f64InfBits) * 2 ^ e = 2 * ((2 ^ 54 - 1) * 2 ^ 970 * 2 ^ (e + 1074)) := by
  have h : magOfBits (f64InfBits - 1) + magOfBits f64InfBits = 2 * ((2 ^ 54 - 1) * 2 ^ 970 * 2 ^ 1074) := by
    decide +kernel
  rw [h, Nat.pow_add 2 e, Nat.mul_comm (2 ^ e)]
  simp only [Nat.mul_assoc]

/-- Only the bits just below the infinity's need the midpoint; they are odd, so a tie there goes up. -/
theorem roundMag_eq_infBits_iff {m k : Nat} (hk : 1074 ≤ k) :
    roundMag m k = f64InfBits ↔ (2 ^ 54 - 1) * 2 ^ 970 * 2 ^ k ≤ m := by
  obtain ⟨e, rfl⟩ := Nat.exists_eq_add_of_le' hk
  obtain ⟨l, ⟨hl, hu⟩, hr⟩ := roundMag_brackets m e
  have hmid := overflow_midpoint e
  have hmono := magOfBits_mul_strictMono e
  have htop : magOfBits (f64InfBits - 1) * 2 ^ e < magOfBits f64InfBits * 2 ^ e := hmono (by decide)
  generalize (2 ^ 54 - 1) * 2 ^ 970 * 2 ^ (e + 1074) = t at hmid ⊢
  rw [hr, min_eq_right_iff, nearerBits]
  rw [Nat.add_mul] at hmid ⊢
  obtain h | rfl | h : f64InfBits ≤ l ∨ l = f64InfBits - 1 ∨ l + 1 ≤ f64InfBits - 1 := by omega
  · have hle : magOfBits f64InfBits * 2 ^ e ≤ magOfBits l * 2 ^ e := hmono.monotone h
    split <;> omega
  · have hodd : (f64InfBits - 1) % 2 = 1 := by decide
    rw [show f64InfBits - 1 + 1 = f64InfBits from rfl] at hu ⊢
    split <;> omega
  · have hle : magOfBits (l + 1) * 2 ^ e ≤ magOfBits (f64InfBits - 1) * 2 ^ e := hmono.monotone h
    split <;> omega

theorem f64Round_roundedTo (neg : Bool) (m : Nat) {k : Nat} (hk : 1074 ≤ k) :
    RoundedTo neg m k (f64Round neg m k) := by
  refine ⟨f64Sign_f64Pack _ _, fun hlt => ?_, fun hle => ?_⟩
  · have hfin : roundMag m k < f64InfBits :=
      Nat.lt_of_le_of_ne (Nat.min_le_right _ _) fun h => Nat.not_le.mpr hlt ((roundMag_eq_infBits_iff hk).mp h)
    rw [f64Round, bits_f64Pack neg (Nat.lt_trans hfin (by decide))]
    exact roundMag_nearestEven hk hfin
  · rw [f64Round, (roundMag_eq_infBits_iff hk).mpr hle]
    cases neg <;> decide

/-! ### The operations on finite operands -/

theorem f64IsNaN_of_finite {a : U64} (h : f64Exp a < 2047) : f64IsNaN a = false := by
  simp [f64IsNaN, h.ne]

theorem f64IsInf_of_finite {a : U64} (h : f64Exp a < 2047) : f64IsInf a = false := by
  simp [f64IsInf, h.ne]

theorem f64Add_of_finite {a b : U64} (ha : f64Exp a < 2047) (hb : f64Exp b < 2047) :
    f64Add a b = some (f64RoundSum (f64Sign a && f64Sign b) (f64Int a + f64Int b)) := by
  simp [f64Add, f64IsNaN_of_finite, f64IsInf_of_finite, ha, hb]

theorem f64Mul_of_finite {a b : U64} (ha : f64Exp a < 2047) (hb : f64Exp b < 2047) :
    f64Mul a b = some (f64Round (f64Sign a != f64Sign b) (f64Mag a * f64Mag b) 2148) := by
  simp [f64Mul, f64IsNaN_of_finite, f64IsInf_of_finite, ha, hb]

theorem f64RoundSum_zero (bothNeg : Bool) :
    f64RoundSum bothNeg 0 = if bothNeg then 0x8000000000000000#64 else 0#64 := by
  cases bothNeg <;> decide

theorem f64RoundSum_of_ne_zero (bothNeg : Bool) {n : Int} (h : n ≠ 0) :
    f64RoundSum bothNeg n = f64Round (decide (n < 0)) n.natAbs 1074 := if_neg h

end Sys2Proof.Machine

namespace Sys2Proof.Proofs

open Sys2Proof.Machine

/-- Settles O43: `fl` chooses the nearer of the two magnitudes around the value. -/
theorem roundingIsNearestEven : Obligations.RoundingIsNearestEven :=
  fun _ _ hk h => roundMag_nearestEven hk h

/-- Settles O44: the threshold is the midpoint above the largest finite magnitude, whose bits are odd. -/
theorem overflowRoundsToInfinity : Obligations.OverflowRoundsToInfinity :=
  fun _ _ hk => roundMag_eq_infBits_iff hk

/-- Settles O45: the operation rounds the exact sum once. -/
theorem additionOfFinitesIsRounded : Obligations.AdditionOfFinitesIsRounded := by
  intro a b ha hb
  refine ⟨_, f64Add_of_finite ha hb, fun hne => ?_, fun hzero => ?_⟩
  · rw [f64RoundSum_of_ne_zero _ hne]
    exact f64Round_roundedTo _ _ (by decide)
  · rw [hzero, f64RoundSum_zero]

/-- Settles O46: the operation rounds the exact product once. -/
theorem productOfFinitesIsRounded : Obligations.ProductOfFinitesIsRounded :=
  fun _ _ ha hb => ⟨_, f64Mul_of_finite ha hb, f64Round_roundedTo _ _ (by decide)⟩

end Sys2Proof.Proofs
end

section
/-! SUPPORT. The state over a step (10_state.md): the invariant, the stored STATUS fields, the seeded flags, and the
block as the host can see it; and the statements about them. -/

namespace Sys2Proof.Laws

open Sys2Proof.Machine Sys2Proof.Safety

/-- A step with nothing pending idles (60_exceptions.md R355). -/
theorem step_idle {s : State} (h : s.pending = []) : step s = .next s := by
  simp only [step, takeAction_nil h]

/-! ### The invariant (R33) -/

/-- Reset meets the invariant, whatever the block held before it. -/
theorem inv_resetBlock {s : State} (h : ∀ r ∈ s.responses, responseOk r) : Inv (resetBlock s) := by
  refine ⟨List.length_replicate, ?_, ⟨rfl, rfl⟩, h⟩
  show (BitVec.ofNat 9 params.mtSentinel).toNat ≤ 313
  decide

/-- Under the invariant a seeded MT64 has its cursor short of the sentinel. -/
theorem mtOk_of_inv {s : State} (h : Inv s) (hs : seeded s.toBlock .mt64 = true) : MtOk s.mt64 := by
  obtain ⟨hlen, hidx, -, -⟩ := h
  have hne : s.mt64.idx.toNat ≠ 313 := of_decide_eq_true hs
  exact ⟨hlen, by omega⟩

/-- What a command on MT64 that seeds it leaves there is in range. -/
theorem mtOk_of_seeded_seeding {i : Instr} {s t : State} (h : Inv s) (hi : seeding i = some .mt64)
    (ht : exec i s = .next t) (hs : seeded t.toBlock .mt64 = true) : MtOk t.mt64 := by
  obtain hok | hsame := mtOk_of_seeding hi ht
  · exact hok
  · rw [hsame]
    exact mtOk_of_inv h ((seeded_congr (e := .mt64) hsame).symm.trans hs)

/-- Every command keeps the invariant. -/
theorem inv_exec {i : Instr} {s t : State} (h : Inv s) (ht : exec i s = .next t) : Inv t := by
  obtain ⟨-, rfl⟩ | ⟨e, hi, v, hs, rfl⟩ | ⟨e, rep, -, hs, fin, rfl⟩ | ⟨c, -, rfl⟩ := exec_next ht
  · exact inv_respond _ h
  · refine inv_respond _ (inv_putEngine h ?_)
    rintro rfl
    exact (mtOk_of_seeded_seeding h hi ht ((seeded_respond _ _ _ _).trans hs) :)
  · exact inv_generated _ fin h hs
  · exact inv_takeFault c h

/-! ### The stored STATUS fields (R31) -/

/-- A command that answers a next state leaves STATUS's stored fields, or records one fault there. -/
theorem faults_exec {i : Instr} {s t : State} (ht : exec i s = .next t) :
    t.faults = s.faults ∨ ∃ c, t.faults = recordFault c s.faults := by
  obtain ⟨-, rfl⟩ | ⟨e, -, v, -, rfl⟩ | ⟨e, rep, -, -, fin, rfl⟩ | ⟨c, -, rfl⟩ := exec_next ht
  · exact .inl rfl
  · exact .inl (putEngine_faults e v s)
  · obtain ⟨-, -, hfaults, -⟩ := generated_completed e (repeatCount rep) fin s
    exact .inl hfaults
  · exact .inr ⟨c, rfl⟩

/-- So does every step but a reset. -/
theorem faults_step {s t : State} (ht : step s = .next t) (hr : s.pending.head? ≠ some .reset) :
    t.faults = s.faults ∨ ∃ c, t.faults = recordFault c s.faults := by
  obtain ⟨-, rfl⟩ | ⟨rest, hp, -⟩ | ⟨w, ops, rest, i, -, -, hx⟩ | ⟨w, ops, rest, c, -, -, rfl⟩ := step_next ht
  · exact .inl rfl
  · simp [hp] at hr
  · exact faults_exec (s := s.setPending rest) hx
  · exact .inr ⟨c, rfl⟩

@[simp] theorem recordFault_faulted (c : Cause) (f : FaultLog) : (recordFault c f).faulted = true := rfl

theorem recordFault_firstCause_of_faulted (c : Cause) {f : FaultLog} (h : f.faulted = true) :
    (recordFault c f).firstCause = f.firstCause := if_pos h

/-! ### The seeded flags (R32) -/

/-- A generation command that answers a next state on a seeded engine was ready. -/
theorem ready_of_exec {i : Instr} {e : Engine} {rep : Repeat} {s t : State} (hi : generation i = some (e, rep))
    (hs : seeded s.toBlock e = true) (ht : exec i s = .next t) : Ready e s := by
  obtain ⟨fin, hfin, -⟩ := exec_generation hi
  exact ready_of_next hs ((hfin s).symm.trans ht)

/-- A command that completes on engine e leaves every other engine's flag. -/
theorem seeded_of_completed {ws : List U64} {e e' : Engine} {s t : State} (h : Completed ws e s t) (he : e' ≠ e) :
    seeded t.toBlock e' = seeded s.toBlock e' := by
  obtain ⟨-, hothers, -, -⟩ := h
  exact seeded_congr ((sameEngine_iff e' _ _).1 (hothers e' he))

/-- A command that answers a next state leaves each engine's seeded flag, or is a seeding command of that engine
and sets it. -/
theorem seeded_exec {i : Instr} {s t : State} (ht : exec i s = .next t) (e : Engine) :
    seeded t.toBlock e = seeded s.toBlock e ∨ seeding i = some e ∧ seeded t.toBlock e = true := by
  obtain ⟨-, rfl⟩ | ⟨e', hi, v, hs, rfl⟩ | ⟨e', rep, hi, hs, fin, rfl⟩ | ⟨c, -, rfl⟩ := exec_next ht
  · exact .inl (seeded_respond _ _ s e)
  · by_cases he : e = e'
    · subst he
      exact .inr ⟨hi, by rw [seeded_respond, hs]⟩
    · exact .inl (seeded_of_completed (putEngine_completed e' v s []) he)
  · by_cases he : e = e'
    · subst he
      exact .inl (by rw [seeded_generated (ready_of_exec hi hs ht), hs])
    · exact .inl (seeded_of_completed (generated_completed e' (repeatCount rep) fin s) he)
  · exact .inl (seeded_takeFault c s e)

/-- A fault's response is the last one, with its code. -/
theorem lastResponse_takeFault (c : Cause) (s : State) : lastResponse (takeFault c s) = some ⟨causeCode c, []⟩ := by
  simp [lastResponse]

/-- No fault's code is OK's. -/
theorem causeCode_ne_ok (c : Cause) : causeCode c ≠ 0#4 := by cases c <;> decide

/-- A seeding command that answers a next state seeds its engine, or its last response is not OK. -/
theorem seeded_seeding {i : Instr} {e : Engine} {s t : State} (hi : seeding i = some e) (ht : exec i s = .next t)
    (hok : (lastResponse t).map Response.status = some 0#4) : seeded t.toBlock e = true := by
  obtain ⟨v, hv, hs⟩ | ⟨c, -, hc⟩ | href := exec_seeding hi
  · rw [hv] at ht
    cases ht
    rw [seeded_respond, hs]
  · rw [hc] at ht
    cases ht
    rw [lastResponse_takeFault] at hok
    exact absurd (Option.some.inj hok) (causeCode_ne_ok c)
  · rw [href] at ht
    cases ht

/-! ### The block as the host can see it (R37) -/

/-- An engine's state with its registers as after reset where it is not seeded: `view` for one engine. -/
def viewEngine (e : Engine) (v : EngineState e) : EngineState e :=
  if engineSeeded e v then v else getEngine e Block.reset

theorem viewEngine_of_seeded {e : Engine} {v : EngineState e} (h : engineSeeded e v = true) : viewEngine e v = v :=
  if_pos h

/-- Blotting out keeps the seeded flag: reset's is 0. -/
@[simp] theorem engineSeeded_viewEngine (e : Engine) (v : EngineState e) :
    engineSeeded e (viewEngine e v) = engineSeeded e v := by
  unfold viewEngine
  split
  · rfl
  · rename_i h
    have hreset : engineSeeded e (getEngine e Block.reset) = false := by cases e <;> rfl
    rw [hreset, Bool.eq_false_of_not_eq_true h]

@[simp] theorem viewEngine_viewEngine (e : Engine) (v : EngineState e) :
    viewEngine e (viewEngine e v) = viewEngine e v := by
  by_cases h : engineSeeded e v = true
  · rw [viewEngine_of_seeded h, viewEngine_of_seeded h]
  · exact (if_neg (by rwa [engineSeeded_viewEngine])).trans (if_neg h).symm

/-- `view` blots out each engine by itself. -/
@[simp] theorem getEngine_view (e : Engine) (b : Block) : getEngine e (view b) = viewEngine e (getEngine e b) := by
  cases e
  case mt64 =>
    show (if b.mt64.idx.toNat = params.mtSentinel then Block.reset.mt64 else b.mt64) =
      if decide (b.mt64.idx.toNat ≠ params.mtSentinel) then b.mt64 else Block.reset.mt64
    simp only [decide_not, Bool.not_eq_true', decide_eq_false_iff_not, ite_not]
  all_goals rfl

@[simp] theorem seeded_view (b : Block) (e : Engine) : seeded (view b) e = seeded b e := by
  rw [seeded_eq, getEngine_view, engineSeeded_viewEngine, seeded_eq]

/-- A block is its twelve engines and the stored fields of STATUS. -/
theorem block_ext {a b : Block} (he : ∀ e, getEngine e a = getEngine e b) (hf : a.faults = b.faults) : a = b := by
  cases a
  cases b
  congr
  exacts [he .xs32, he .xs64, he .xs128, he .xs64s, he .xs1024s, he .pcg32LcgXshrr, he .pcg32LcgXshrs,
    he .pcg32McgXshrr, he .pcg32McgXshrs, he .pcg64LcgXslrr, he .pcg64McgXslrr, he .mt64]

@[simp] theorem view_view (b : Block) : view (view b) = view b :=
  block_ext (fun e => by simp) rfl

/-- STATUS shows the seeded flags and the stored fields, and `view` keeps both. -/
@[simp] theorem statusWord_view (b : Block) : statusWord (view b) = statusWord b := by
  have hfaults : (view b).faults = b.faults := rfl
  simp only [statusWord, seededField, seededBit, seeded_view, hfaults]

/-- The cursor of MT64 is kept too: where it is the sentinel, reset's is the sentinel. -/
@[simp] theorem mt64_idx_view (b : Block) : (view b).mt64.idx.toNat = b.mt64.idx.toNat := by
  simp only [view]
  split
  · rename_i h
    rw [h]
    rfl
  · rfl

section viewState

variable (s : State)

@[simp] theorem viewState_toBlock : (viewState s).toBlock = view s.toBlock := rfl
@[simp] theorem viewState_pending : (viewState s).pending = s.pending := rfl
@[simp] theorem viewState_draws : (viewState s).draws = s.draws := rfl
theorem viewState_setPending (l : List HostAction) : viewState (s.setPending l) = (viewState s).setPending l := rfl
theorem viewState_setDraws (k : Nat) : viewState (s.setDraws k) = (viewState s).setDraws k := rfl
theorem viewState_takeFault (c : Cause) : viewState (takeFault c s) = takeFault c (viewState s) := rfl
theorem resetBlock_viewState : resetBlock (viewState s) = resetBlock s := rfl
theorem viewState_respond (st : BitVec 4) (ws : List U64) :
    viewState (s.respond st ws) = (viewState s).respond st ws := rfl

@[simp] theorem viewState_viewState : viewState (viewState s) = viewState s :=
  congrArg (fun b : Block => { s with toBlock := b }) (view_view s.toBlock)

/-- Writing an engine, seen after blotting out, is writing what is seen of it. -/
theorem viewState_putEngine (e : Engine) (v : EngineState e) :
    viewState (putEngine e v s) = putEngine e (viewEngine e v) (viewState s) := by
  have hview := getEngine_view e (putEngine e v s).toBlock
  rw [getEngine_putEngine] at hview
  rw [← hview]
  cases e <;> rfl

end viewState

/-- A generation command on a seeded engine reads that engine and the draws only, so it does not see the blotting. -/
theorem viewState_generated {e : Engine} {s : State} (hs : seeded s.toBlock e = true) (n : Nat) (fin : Finish e) :
    viewState (generated e n fin (viewState s)) = viewState (generated e n fin s) := by
  have hget : getEngine e (viewState s).toBlock = getEngine e s.toBlock := by
    rw [viewState_toBlock, getEngine_view, viewEngine_of_seeded (by rwa [← seeded_eq])]
  simp only [generated, hget, viewState_draws, viewState_respond, viewState_setDraws, viewState_putEngine,
    viewState_viewState]

/-- The assertion of MT_Next reads the cursor only. -/
theorem asserted_viewState (e : Engine) (s : State) (k : Host.Outcome State Fault Refusal) :
    asserted e (viewState s) k = asserted e s k := by
  simp only [asserted, mtAsserted, viewState_toBlock, mt64_idx_view]

theorem mapNext_asserted (f : State → State) (e : Engine) (s : State) (k : Host.Outcome State Fault Refusal) :
    mapNext f (asserted e s k) = asserted e s (mapNext f k) := by
  simp only [asserted, mtAsserted, apply_ite (mapNext f)]
  rfl

/-- Every generation command, blotted out before it or not, is seen the same: on an engine that is not seeded it
faults. -/
theorem generationOutcome_viewState (e : Engine) (n : Nat) (fin : Finish e) (s : State) :
    mapNext viewState (generationOutcome e n fin (viewState s)) = mapNext viewState (generationOutcome e n fin s) := by
  simp only [generationOutcome, asserted_viewState, mapNext_asserted, viewState_toBlock, seeded_view]
  congr 1
  split
  · rename_i hs
    simp only [mapNext, viewState_generated hs]
  · simp only [mapNext, viewState_takeFault, viewState_viewState]

/-- No command reads a register of an engine that is not seeded. -/
theorem exec_viewState (i : Instr) (s : State) :
    mapNext viewState (exec i (viewState s)) = mapNext viewState (exec i s) := by
  obtain rfl | ⟨e, hi⟩ | ⟨e, rep, hi⟩ := kinds i
  · simp only [exec, execStatus, complete, mapNext, viewState_toBlock, statusWord_view, viewState_respond,
      viewState_viewState]
  · obtain ⟨v, hv, -⟩ | ⟨c, -, hc⟩ | href := exec_seeding hi
    · simp only [hv, complete, mapNext, viewState_respond, viewState_putEngine, viewState_viewState]
    · simp only [hc, mapNext, viewState_takeFault, viewState_viewState]
    · simp only [href]
  · obtain ⟨fin, hfin, -⟩ := exec_generation hi
    rw [hfin, hfin, generationOutcome_viewState]

end Sys2Proof.Laws

namespace Sys2Proof.Proofs

open Sys2Proof.Machine Sys2Proof.Safety Sys2Proof.Laws

/-- Settles O11: the reset state is its own reset, with no response returned. -/
theorem invariantHoldsAtReset : Obligations.InvariantHoldsAtReset :=
  inv_resetBlock (s := State.reset) (fun _ hr => absurd hr List.not_mem_nil)

/-- Settles O12, by the cases of a step that answers a next state. -/
theorem everyStepKeepsTheInvariant : Obligations.EveryStepKeepsTheInvariant := by
  intro s t h ht
  obtain ⟨-, rfl⟩ | ⟨rest, -, rfl⟩ | ⟨w, ops, rest, i, -, -, hx⟩ | ⟨w, ops, rest, c, -, -, rfl⟩ := step_next ht
  · exact h
  · obtain ⟨-, -, -, hresponses⟩ := h
    exact inv_resetBlock hresponses
  · exact inv_exec (inv_setPending rest h) hx
  · exact inv_takeFault c (inv_setPending rest h)

/-- Settles O14: a step but a reset records at most a fault, which keeps both fields once FAULTED is set. -/
theorem faultedAndFirstCauseAreSticky : Obligations.FaultedAndFirstCauseAreSticky := by
  intro s t ht hr hf
  obtain hsame | ⟨c, hc⟩ := faults_step ht hr
  · rw [hsame]
    exact ⟨hf, rfl⟩
  · rw [hc]
    exact ⟨recordFault_faulted c _, recordFault_firstCause_of_faulted c hf⟩

/-- Settles O16: a command leaves each flag or sets the one of the engine it seeds. -/
theorem seededFlagsFollowSeeding : Obligations.SeededFlagsFollowSeeding := by
  refine ⟨fun s t ht hr e hs => ?_, fun i s t ht e hs hs' => ?_, fun i e s t hi ht hok => seeded_seeding hi ht hok⟩
  · obtain ⟨-, rfl⟩ | ⟨rest, hp, -⟩ | ⟨w, ops, rest, i, -, -, hx⟩ | ⟨w, ops, rest, c, -, -, rfl⟩ := step_next ht
    · exact hs
    · simp [hp] at hr
    · obtain hsame | ⟨-, hset⟩ := seeded_exec hx e
      · exact hsame.trans hs
      · exact hset
    · exact (seeded_takeFault c _ e).trans hs
  · obtain hsame | ⟨hi, -⟩ := seeded_exec ht e
    · rw [hsame, hs] at hs'
      cases hs'
    · exact hi

/-- Settles O38, by the host's next action: only a command reads the block, and `exec_viewState` is about those. -/
theorem unseededRegistersAreUnobservable : Obligations.UnseededRegistersAreUnobservable := by
  intro s
  cases hp : s.pending with
  | nil =>
    rw [step_idle hp, step_idle (s := viewState s) hp, mapNext, mapNext, viewState_viewState]
  | cons a rest =>
    cases a with
    | reset => rw [step_reset hp, step_reset (s := viewState s) hp, ← viewState_setPending, resetBlock_viewState]
    | command w ops =>
      rw [step_command hp, step_command (s := viewState s) hp, ← viewState_setPending]
      cases decode w ops with
      | instr i => exact exec_viewState i _
      | fault c => simp only [raise, mapNext, viewState_takeFault, viewState_viewState]
      | wrongOperandCount => rfl

end Sys2Proof.Proofs
end

section
/-! SUPPORT. Commands and the state between them (20_memory.md): a step executes the command its transaction encodes
(R54), a bulk command is a run of single ones (R55), and a command's effect stays on its own engine (R60). -/

namespace Sys2Proof

/-! ### The encoder and the decoder (30_encoding.md R65, R71) -/

/-- A well-formed command is decoded from its own encoding: each builder's word passes checks 1 to 4, and the builder
makes the command again from the operand words. -/
theorem decode_encode {i : Instr} (h : i.wellFormed = true) : decode (encode i).1 (encode i).2 = .instr i := by
  obtain ⟨e, ops, hb⟩ | ⟨e, key, hb⟩ | ⟨rep, e, rfl⟩ | ⟨rep, e, rfl⟩ | ⟨rep, e, rfl⟩ | ⟨rep, lo, hi, e, rfl⟩ | rfl :=
    instr_cases i
  · obtain ⟨he, -, henc, hlen⟩ := encode_buildSeed hb
    rw [henc]
    exact decode_of_checkWord (checkWord_seed he) (by rw [cntField_mkWord, hlen]) hb
  · obtain ⟨he, hwf, henc⟩ := encode_buildSeeda hb
    rw [henc]
    refine decode_of_checkWord (checkWord_seeda he _) ?_ hb
    rw [cntField_mkWord]
    exact (toNat_keyCnt (hwf.symm.trans h)).symm
  · rw [encode_buildGen]
    exact decode_of_checkWord (checkWord_gen e rep) rfl (by rw [build_gen, repeatOf_mkWord])
  · rw [encode_buildGenr]
    exact decode_of_checkWord (checkWord_genr e rep) rfl (by rw [build_genr, repeatOf_mkWord])
  · rw [encode_buildGenrc]
    exact decode_of_checkWord (checkWord_genrc e rep) rfl (by rw [build_genrc, repeatOf_mkWord])
  · rw [encode_buildGenrr]
    exact decode_of_checkWord (checkWord_genrr e rep) rfl (by rw [build_genrr, repeatOf_mkWord])
  · exact decode_of_checkWord checkWord_status rfl rfl

end Sys2Proof

namespace Sys2Proof.Laws

open Sys2Proof.Machine Sys2Proof.Safety

theorem step_of_decode {s : State} {w : U32} {ops : List U64} {rest : List HostAction} {i : Instr}
    (hp : s.pending = .command w ops :: rest) (hd : decode w ops = .instr i) : step s = exec i (s.setPending rest) := by
  rw [step_command hp, hd]

/-- A sequence of commands answers a next state where its first does and the rest does from there. -/
theorem execAll_cons_next {i : Instr} {is : List Instr} {s t : State} :
    execAll (i :: is) s = .next t ↔ ∃ m, exec i s = .next m ∧ execAll is m = .next t := by
  rw [execAll]
  cases exec i s <;> simp

theorem execAll_nil_next {s t : State} : execAll [] s = .next t ↔ s = t := by
  rw [execAll, Host.Outcome.next.injEq]

/-- Two commands in a row. -/
theorem execAll_pair_next {i j : Instr} {s t : State} :
    execAll [i, j] s = .next t ↔ ∃ m, exec i s = .next m ∧ exec j m = .next t := by
  simp only [execAll_cons_next, execAll_nil_next, exists_eq_right]

/-! ### A command's effect on its own engine (R60) -/

/-- A seeding or generation command of the engine. -/
def OnEngine (i : Instr) (e : Engine) : Prop := seeding i = some e ∨ ∃ rep, generation i = some (e, rep)

/-- All a command on engine `e` can do: put the engine and answer OK, with result words and a next draw number that
are a function of the draws; fault; or stop without a next state. -/
inductive Effect (e : Engine) where
  | completes (v : EngineState e) (results : Nat → List U64 × Nat)
  | faults (c : Cause)
  | stops (r : Fault)
  | refuses (r : Refusal)

/-- What an effect makes of a state. -/
def Effect.apply {e : Engine} : Effect e → State → Host.Outcome State Fault Refusal
  | .completes v results, s =>
    .next (((putEngine e v s).setDraws (results s.draws).2).respond 0#4 (results s.draws).1)
  | .faults c, s => .next (takeFault c s)
  | .stops r, _ => .fault r
  | .refuses r, _ => .refused r

@[simp] theorem getEngine_respond (e : Engine) (st : BitVec 4) (ws : List U64) (s : State) :
    getEngine e (s.respond st ws).toBlock = getEngine e s.toBlock := rfl

@[simp] theorem getEngine_setDraws (e : Engine) (k : Nat) (s : State) :
    getEngine e (s.setDraws k).toBlock = getEngine e s.toBlock := rfl

@[simp] theorem getEngine_takeFault (e : Engine) (c : Cause) (s : State) :
    getEngine e (takeFault c s).toBlock = getEngine e s.toBlock := by cases e <;> rfl

/-- Writing one engine leaves every other. -/
theorem getEngine_putEngine_of_ne {e g : Engine} (h : g ≠ e) (v : EngineState e) (s : State) :
    getEngine g (putEngine e v s).toBlock = getEngine g s.toBlock :=
  (sameEngine_iff g _ _).1 (sameOthers_putEngine e v s g h)

/-- Whether the assertion of MT_Next holds is a matter of the engine's own state: it holds in both states or in
neither. -/
theorem asserted_cases {e : Engine} {s s' : State} (h : getEngine e s.toBlock = getEngine e s'.toBlock) :
    (∀ k, asserted e s k = k ∧ asserted e s' k = k) ∨
      ∀ k, asserted e s k = .fault .mtCursorAssert ∧ asserted e s' k = .fault .mtCursorAssert := by
  by_cases he : e = .mt64
  · subst he
    have hmt : s.mt64 = s'.mt64 := h
    simp only [asserted, mtAsserted, hmt, ↓reduceIte]
    split <;> simp
  · exact .inl fun k => ⟨if_neg he, if_neg he⟩

/-- A generation command has one effect in any two states that agree on its engine. -/
theorem generationOutcome_effect {e : Engine} {s s' : State} (h : getEngine e s.toBlock = getEngine e s'.toBlock)
    (n : Nat) (fin : Finish e) :
    ∃ eff : Effect e, generationOutcome e n fin s = eff.apply s ∧ generationOutcome e n fin s' = eff.apply s' := by
  simp only [generationOutcome, generated, seeded_congr h, h]
  obtain hk | hk := asserted_cases h
  · simp only [hk]
    split
    · exact ⟨.completes _ (fin _), rfl, rfl⟩
    · exact ⟨.faults .unseeded, rfl, rfl⟩
  · exact ⟨.stops .mtCursorAssert, (hk _).1, (hk _).2⟩

/-- A command on an engine has one effect in any two states that agree on that engine. -/
theorem exec_effect {i : Instr} {e : Engine} (hi : OnEngine i e) {s s' : State}
    (h : getEngine e s.toBlock = getEngine e s'.toBlock) :
    ∃ eff : Effect e, exec i s = eff.apply s ∧ exec i s' = eff.apply s' := by
  obtain hi | ⟨rep, hi⟩ := hi
  · obtain ⟨v, hv, -⟩ | ⟨c, -, hc⟩ | href := exec_seeding hi
    · have hdraws : ∀ s, (putEngine e v s).setDraws s.draws = putEngine e v s := fun s => by cases e <;> rfl
      refine ⟨.completes v fun k => ([], k), ?_, ?_⟩ <;> rw [hv, Effect.apply, hdraws] <;> rfl
    · exact ⟨.faults c, hc s, hc s'⟩
    · exact ⟨.refuses .keyTooLong, href s, href s'⟩
  · obtain ⟨fin, hfin, -⟩ := exec_generation hi
    rw [hfin, hfin]
    exact generationOutcome_effect h _ fin

/-- An effect leaves every other engine. -/
theorem Effect.apply_others {e g : Engine} (hg : g ≠ e) {eff : Effect e} {s t : State} (h : eff.apply s = .next t) :
    getEngine g t.toBlock = getEngine g s.toBlock := by
  cases eff <;> cases h
  · exact getEngine_putEngine_of_ne hg _ s
  · exact getEngine_takeFault g _ s

/-- An effect on two states that agree on the engine leaves them agreeing on it. -/
theorem Effect.apply_engine {e : Engine} {eff : Effect e} {s s' t t' : State}
    (hs : getEngine e s.toBlock = getEngine e s'.toBlock) (h : eff.apply s = .next t) (h' : eff.apply s' = .next t') :
    getEngine e t.toBlock = getEngine e t'.toBlock := by
  cases eff <;> cases h <;> cases h'
  · simp
  · simpa using hs

/-- An effect that answers a next state does so in every state, with one response, which is the same, and so are the
draws, where the draws were. -/
theorem Effect.apply_responds {e : Engine} {eff : Effect e} {s s' t : State} (hd : s.draws = s'.draws)
    (h : eff.apply s = .next t) :
    ∃ t' r, eff.apply s' = .next t' ∧ t.responses = s.responses ++ [r] ∧ t'.responses = s'.responses ++ [r] ∧
      t.draws = t'.draws := by
  cases eff <;> cases h
  · exact ⟨_, _, rfl, by simp; rfl, by simp [hd], by simp [hd]⟩
  · exact ⟨_, _, rfl, takeFault_responses _ s, takeFault_responses _ s', hd⟩

/-- A command leaves every engine but its own. -/
theorem exec_others {i : Instr} {e g : Engine} (hi : OnEngine i e) (hg : g ≠ e) {s t : State} (h : exec i s = .next t) :
    getEngine g t.toBlock = getEngine g s.toBlock := by
  obtain ⟨eff, heff, -⟩ := exec_effect hi (s := s) rfl
  exact eff.apply_others hg (heff.symm.trans h)

/-- What a command leaves of its engine depends on that engine alone. -/
theorem exec_engine {i : Instr} {e : Engine} (hi : OnEngine i e) {s s' t t' : State}
    (hs : getEngine e s.toBlock = getEngine e s'.toBlock) (h : exec i s = .next t) (h' : exec i s' = .next t') :
    getEngine e t.toBlock = getEngine e t'.toBlock := by
  obtain ⟨eff, heff, heff'⟩ := exec_effect hi hs
  exact eff.apply_engine hs (heff.symm.trans h) (heff'.symm.trans h')

/-- Both orders of two commands on different engines leave the same of every engine but the second command's. -/
theorem exec_orders_agree {i j : Instr} {e f g : Engine} (hi : OnEngine i e) (hj : OnEngine j f) (hef : e ≠ f)
    (hg : g ≠ f) {s m t n u : State} (him : exec i s = .next m) (hmt : exec j m = .next t) (hjn : exec j s = .next n)
    (hnu : exec i n = .next u) : getEngine g t.toBlock = getEngine g u.toBlock := by
  rw [exec_others hj hg hmt]
  by_cases hge : g = e
  · subst hge
    exact exec_engine hi (exec_others hj hef hjn).symm him hnu
  · rw [exec_others hi hge him, exec_others hi hge hnu, exec_others hj hg hjn]

/-! ### Bulk and single commands (R55) -/

theorem withRepeat_buildGen (rep rep' : Repeat) (e : Engine) : withRepeat rep' (buildGen rep e) = buildGen rep' e := by
  cases e <;> rfl

theorem withRepeat_buildGenr (rep rep' : Repeat) (e : Engine) :
    withRepeat rep' (buildGenr rep e) = buildGenr rep' e := by cases e <;> rfl

theorem withRepeat_buildGenrc (rep rep' : Repeat) (e : Engine) :
    withRepeat rep' (buildGenrc rep e) = buildGenrc rep' e := by cases e <;> rfl

theorem withRepeat_buildGenrr (rep rep' : Repeat) (lo hi : U64) (e : Engine) :
    withRepeat rep' (buildGenrr rep lo hi e) = buildGenrr rep' lo hi e := by cases e <;> rfl

theorem withRepeat_of_generation {i : Instr} {e : Engine} {rep : Repeat} (h : generation i = some (e, rep)) :
    withRepeat rep i = i := by
  obtain rfl | rfl | rfl | ⟨lo, hi, rfl⟩ := generation_cases h
  · exact withRepeat_buildGen rep rep e
  · exact withRepeat_buildGenr rep rep e
  · exact withRepeat_buildGenrc rep rep e
  · exact withRepeat_buildGenrr rep rep lo hi e

/-- The results of more raw values are those of the first and then those of the rest, from the draw number the first
leave. -/
structure Joins {e : Engine} (fin : Finish e) : Prop where
  nil : ∀ k, fin [] k = ([], k)
  append : ∀ vs ws k, fin (vs ++ ws) k = ((fin vs k).1 ++ (fin ws (fin vs k).2).1, (fin ws (fin vs k).2).2)

theorem joins_rawFinish (e : Engine) : Joins (rawFinish e) :=
  ⟨fun _ => rfl, fun vs ws k => by simp [rawFinish]⟩

theorem joins_realFinish (e : Engine) (conv : BitVec (width e) → Option U64) : Joins (realFinish e conv) :=
  ⟨fun _ => rfl, fun vs ws k => by simp [realFinish, packReals_append]⟩

/-- A generation command and its other repeat forms differ in the number of calls only. -/
theorem exec_withRepeat {i : Instr} {e : Engine} {rep : Repeat} (h : generation i = some (e, rep)) :
    ∃ fin : Finish e, Joins fin ∧
      ∀ rep' s, exec (withRepeat rep' i) s = generationOutcome e (repeatCount rep') fin s := by
  obtain rfl | rfl | rfl | ⟨lo, hi, rfl⟩ := generation_cases h
  · exact ⟨_, joins_rawFinish e, fun rep' s => by rw [withRepeat_buildGen, exec_gen]⟩
  · exact ⟨_, joins_realFinish e _, fun rep' s => by rw [withRepeat_buildGenr, exec_genr]⟩
  · exact ⟨_, joins_realFinish e _, fun rep' s => by rw [withRepeat_buildGenrc, exec_genrc]⟩
  · exact ⟨_, joins_realFinish e _, fun rep' s => by rw [withRepeat_buildGenrr, exec_genrr]⟩

/-- The result words of a generation command of `n` calls. -/
def resultsOf (e : Engine) (n : Nat) (fin : Finish e) (s : State) : List U64 :=
  (fin (runN (stepEngine e) n (getEngine e s.toBlock)).1 s.draws).1

theorem generated_responses (e : Engine) (n : Nat) (fin : Finish e) (s : State) :
    (generated e n fin s).responses = s.responses ++ [⟨0#4, resultsOf e n fin s⟩] := by
  simp [generated, resultsOf]

theorem generated_draws (e : Engine) (n : Nat) (fin : Finish e) (s : State) :
    (generated e n fin s).draws = (fin (runN (stepEngine e) n (getEngine e s.toBlock)).1 s.draws).2 := rfl

/-- What a generation command leaves, but with these responses. -/
def generatedWith (e : Engine) (n : Nat) (fin : Finish e) (s : State) (rs : List Response) : State :=
  { generated e n fin s with responses := rs }

/-- No calls leave all but the responses. -/
theorem generatedWith_zero {e : Engine} {fin : Finish e} (hf : Joins fin) (s : State) :
    generatedWith e 0 fin s s.responses = s := by
  simp only [generatedWith, generated, runN_zero, hf.nil, putEngine_getEngine]
  rfl

/-- The first of `n + 1` calls and then the other `n`, from what it leaves. -/
theorem runN_succ_append {σ α : Type} (step : σ → α × σ) (n : Nat) (v : σ) :
    runN step (n + 1) v =
      ((runN step 1 v).1 ++ (runN step n (runN step 1 v).2).1, (runN step n (runN step 1 v).2).2) := rfl

theorem resultsOf_zero {e : Engine} {fin : Finish e} (hf : Joins fin) (s : State) : resultsOf e 0 fin s = [] := by
  rw [resultsOf, runN_zero, hf.nil]

/-- The results of `n + 1` calls are those of the first and then those of the rest. -/
theorem resultsOf_succ {e : Engine} {fin : Finish e} (hf : Joins fin) (n : Nat) (s : State) :
    resultsOf e (n + 1) fin s = resultsOf e 1 fin s ++ resultsOf e n fin (generated e 1 fin s) := by
  simp only [resultsOf, generated_draws, getEngine_generated]
  rw [runN_succ_append _ n, hf.append]

/-- One call and then `n` leave what `n + 1` do, but for the responses. -/
theorem generatedWith_succ {e : Engine} {fin : Finish e} (hf : Joins fin) (n : Nat) (s : State) (rs : List Response) :
    generatedWith e n fin (generated e 1 fin s) rs = generatedWith e (n + 1) fin s rs := by
  simp only [generatedWith, generated, getEngine_respond, getEngine_setDraws, getEngine_putEngine]
  rw [runN_succ_append _ n, hf.append]
  generalize runN (stepEngine e) 1 (getEngine e s.toBlock) = first
  cases e <;> rfl

/-- What an engine that is ready leaves after a generation command is ready. -/
theorem ready_generated {e : Engine} {s : State} (h : Ready e s) (n : Nat) (fin : Finish e) :
    Ready e (generated e n fin s) := by
  refine ⟨seeded_generated h n fin, ?_⟩
  rintro rfl
  exact mtIdx_run (h.2 rfl) n

/-- `n` single commands on an engine that is ready leave what one command of `n` calls does, but for the responses:
one each, which hold its results. -/
theorem execAll_singles {i : Instr} {e : Engine} {fin : Finish e} (hf : Joins fin)
    (hi : ∀ s, exec i s = generationOutcome e 1 fin s) (n : Nat) {s : State} (hs : Ready e s) :
    ∃ rs : List Response, execAll (List.replicate n i) s = .next (generatedWith e n fin s (s.responses ++ rs)) ∧
      rs.length = n ∧ (∀ r ∈ rs, r.status = 0#4) ∧ rs.flatMap Response.results = resultsOf e n fin s := by
  induction n generalizing s with
  | zero =>
    refine ⟨[], ?_, rfl, by simp, (resultsOf_zero hf s).symm⟩
    rw [List.append_nil, generatedWith_zero hf]
    rfl
  | succ n ih =>
    obtain ⟨rs, hrun, hlen, hok, hres⟩ := ih (ready_generated hs 1 fin)
    refine ⟨⟨0#4, resultsOf e 1 fin s⟩ :: rs, ?_, by simp [hlen], by simpa using hok, ?_⟩
    · rw [generated_responses, generatedWith_succ hf, List.append_assoc] at hrun
      exact execAll_cons_next.2 ⟨_, (hi s).trans (generationOutcome_of_ready hs 1 fin), hrun⟩
    · rw [List.flatMap_cons, hres, resultsOf_succ hf n]

end Sys2Proof.Laws

namespace Sys2Proof.Proofs

open Sys2Proof.Machine Sys2Proof.Safety Sys2Proof.Laws

/-- Settles O36: in two states that agree on its engine a command has one effect, which is on that engine. -/
theorem enginesAreIndependent : Obligations.EnginesAreIndependent := by
  intro i e s s' t hi hs hd ht
  rw [sameEngine_iff] at hs
  obtain ⟨eff, heff, heff'⟩ := exec_effect hi hs
  have hnext : eff.apply s = .next t := heff.symm.trans ht
  obtain ⟨t', r, hnext', hr, hr', hdraws⟩ := eff.apply_responds hd hnext
  exact ⟨fun g hg => (sameEngine_iff g _ _).2 (eff.apply_others hg hnext), t', r, heff'.trans hnext',
    (sameEngine_iff e _ _).2 (eff.apply_engine hs hnext hnext'), hr, hr', hdraws⟩

/-- Settles O6: the decoder reads a command back from its encoding. -/
theorem stepRunsTheEncodedCommand : Obligations.StepRunsTheEncodedCommand :=
  fun _ _ _ hwf hp => step_of_decode hp (decode_encode hwf)

/-- Settles O35, by induction on the count. -/
theorem bulkEqualsSingles : Obligations.BulkEqualsSingles := by
  intro i e n s hi hs
  obtain ⟨fin, hf, hexec⟩ := exec_withRepeat hi
  obtain ⟨rs, hrun, hlen, hok, hres⟩ := execAll_singles hf (hexec .single) n.toNat hs
  have hbulk : exec i s = .next (generated e n.toNat fin s) := by
    rw [← generationOutcome_of_ready hs, ← withRepeat_of_generation hi, hexec]
    rfl
  exact ⟨_, _, rs, hbulk, hrun, rfl, rfl, rfl, hlen, hok, rfl, by rw [hres, generated_responses]⟩

/-- Settles O37: each engine is the first command's, where the other leaves it, or the second's likewise. -/
theorem commandsOnDifferentEnginesCommute : Obligations.CommandsOnDifferentEnginesCommute := by
  intro i j e f s t u hef hi hj ht hu g
  obtain ⟨m, him, hmt⟩ := execAll_pair_next.1 ht
  obtain ⟨n, hjn, hnu⟩ := execAll_pair_next.1 hu
  rw [sameEngine_iff]
  by_cases hg : g = f
  · subst hg
    exact (exec_orders_agree hj hi hef.symm hef.symm hjn hnu him hmt).symm
  · exact exec_orders_agree hi hj hef hg him hmt hjn hnu

/-- Settles O5: the step's arm for a transaction that decodes to a command. -/
theorem stepRunsTheDecodedCommand : Obligations.StepRunsTheDecodedCommand :=
  fun _ _ _ _ _ hp hd => step_of_decode hp hd

end Sys2Proof.Proofs
end

section
/-! SUPPORT. The command encoding (30_encoding.md): each decision of the decoder by the word's fields as numbers (R66 to
R71, R75), the transaction a command was decoded from, the one response of each command (R74), a bulk command of no
calls (R69); and the statements about them. -/

namespace Sys2Proof

/-! ### A word that passes checks 1 to 4 (60_exceptions.md R342) -/

/-- An ENG field that check 2 accepts is the engine's code. -/
theorem engineOfCode_of_engineFor {op : Op} {c : BitVec 4} {e : Engine} (h : engineFor op c = some e) :
    engineOfCode c = some e := by
  unfold engineFor at h
  split at h
  · cases h
  · exact h

/-- Check 3 leaves RSVD zero. -/
theorem rsvdField_of_reservedOk {op : Op} {w : U32} (h : reservedOk op w = true) : rsvdField w = 0#7 :=
  of_decide_eq_true (Bool.and_eq_true_iff.1 h).1

/-- A word that passes checks 1 to 4 is made of its operation, its engine, BULK and CNT. -/
theorem mkWord_of_checkWord {w : U32} {op : Op} {e : Engine} (h : checkWord w = .ok (op, e)) :
    mkWord op e (bulkField w) (cntField w) = w := by
  obtain ⟨hop, heng, hres, -⟩ := checkWord_ok h
  exact mkWord_fields hop (engineOfCode_of_engineFor heng) (rsvdField_of_reservedOk hres)

/-- Of a generation command check 3 leaves the fields of its repeat form (30_encoding.md R69). -/
theorem mkWord_repeatOf {w : U32} {op : Op} {e : Engine} (h : checkWord w = .ok (op, e))
    (hgen : op = .gen ∨ op = .genr ∨ op = .genrc ∨ op = .genrr) :
    mkWord op e (repeatBulk (repeatOf w)) (repeatCnt (repeatOf w)) = w := by
  obtain ⟨-, -, hres, -⟩ := checkWord_ok h
  have hrep : bulkField w = 1#1 ∨ cntField w = 0#16 := by
    obtain rfl | rfl | rfl | rfl := hgen <;> simpa [rsvdField_of_reservedOk hres, reservedOk] using hres
  obtain ⟨hbulk, hcnt⟩ := repeat_of_fields hrep
  rw [hbulk, hcnt, mkWord_of_checkWord h]

/-- Of SEED and STATUS check 3 leaves neither BULK nor CNT. -/
theorem mkWord_zero {w : U32} {op : Op} {e : Engine} (h : checkWord w = .ok (op, e))
    (hop : op = .seed ∨ op = .status) : mkWord op e 0#1 0#16 = w := by
  obtain ⟨-, -, hres, -⟩ := checkWord_ok h
  have hzero : bulkField w = 0#1 ∧ cntField w = 0#16 := by
    obtain rfl | rfl := hop <;> simpa [rsvdField_of_reservedOk hres, reservedOk] using hres
  obtain ⟨hbulk, hcnt⟩ := hzero
  rw [← hbulk, ← hcnt, mkWord_of_checkWord h]

/-- Of SEEDA check 3 leaves BULK zero. -/
theorem mkWord_cntField {w : U32} {e : Engine} (h : checkWord w = .ok (.seeda, e)) :
    mkWord .seeda e 0#1 (cntField w) = w := by
  obtain ⟨-, -, hres, -⟩ := checkWord_ok h
  have hbulk : bulkField w = 0#1 := by simpa [rsvdField_of_reservedOk hres, reservedOk] using hres
  rw [← hbulk, mkWord_of_checkWord h]

/-- A key with as many words as CNT says is well formed, and CNT is its length. -/
theorem keyCnt_of_length {key : List U64} {cnt : BitVec 16} (h : key.length = cnt.toNat) :
    keyExpressible key = true ∧ keyCnt key = cnt := by
  have hlt := cnt.isLt
  refine ⟨decide_eq_true (by omega), ?_⟩
  rw [keyCnt, h, BitVec.ofNat_toNat, BitVec.setWidth_eq]

/-- A transaction that decodes is the encoding of the command it decodes to, by the operation of its word. -/
theorem encode_of_decode {w : U32} {ops : List U64} {i : Instr} (h : decode w ops = .instr i) :
    i.wellFormed = true ∧ encode i = (w, ops) := by
  obtain ⟨op, e, hc, hlen, hb⟩ := decode_instr h
  cases op with
  | seed =>
    obtain ⟨-, hwf, henc, -⟩ := encode_buildSeed hb
    exact ⟨hwf, by rw [henc, mkWord_zero hc (by simp)]⟩
  | seeda =>
    obtain ⟨-, hwf, henc⟩ := encode_buildSeeda hb
    obtain ⟨hkey, hcnt⟩ := keyCnt_of_length hlen
    exact ⟨hwf.trans hkey, by rw [henc, hcnt, mkWord_cntField hc]⟩
  | gen =>
    obtain rfl := List.eq_nil_of_length_eq_zero hlen
    cases hb
    exact ⟨by cases e <;> rfl, by rw [encode_buildGen, mkWord_repeatOf hc (by simp)]⟩
  | genr =>
    obtain rfl := List.eq_nil_of_length_eq_zero hlen
    cases hb
    exact ⟨by cases e <;> rfl, by rw [encode_buildGenr, mkWord_repeatOf hc (by simp)]⟩
  | genrc =>
    obtain rfl := List.eq_nil_of_length_eq_zero hlen
    cases hb
    exact ⟨by cases e <;> rfl, by rw [encode_buildGenrc, mkWord_repeatOf hc (by simp)]⟩
  | genrr =>
    obtain ⟨lo, hi, rfl⟩ := List.length_eq_two.1 hlen
    cases hb
    exact ⟨by cases e <;> rfl, by rw [encode_buildGenrr, mkWord_repeatOf hc (by simp)]⟩
  | status =>
    obtain rfl := List.eq_nil_of_length_eq_zero hlen
    cases hb
    obtain ⟨-, -, -, hpair⟩ := checkWord_ok hc
    obtain rfl : e = .xs32 := of_decide_eq_true hpair
    exact ⟨rfl, by rw [encode_status, mkWord_zero hc (by simp)]⟩

/-- The decoder is the encoder's inverse: a transaction decodes to the one well-formed command it encodes. -/
theorem decode_eq_instr_iff {w : U32} {ops : List U64} {i : Instr} :
    decode w ops = .instr i ↔ i.wellFormed = true ∧ encode i = (w, ops) := by
  refine ⟨encode_of_decode, fun ⟨hwf, henc⟩ => ?_⟩
  have h := decode_encode hwf
  rwa [henc] at h

/-! ### The decoder's decisions by the fields as numbers -/

section fieldNumbers

variable (w : U32)

theorem toNat_opField : (opField w).toNat = w.toNat % 16 := by
  simp [opField, BitVec.extractLsb'_toNat]

theorem toNat_engField : (engField w).toNat = w.toNat / 16 % 16 := by
  simp [engField, BitVec.extractLsb'_toNat, Nat.shiftRight_eq_div_pow]

theorem toNat_rsvdField : (rsvdField w).toNat = w.toNat / 256 % 128 := by
  simp [rsvdField, BitVec.extractLsb'_toNat, Nat.shiftRight_eq_div_pow]

theorem toNat_bulkField : (bulkField w).toNat = w.toNat / 32768 % 2 := by
  simp [bulkField, BitVec.extractLsb'_toNat, Nat.shiftRight_eq_div_pow]

theorem toNat_cntField : (cntField w).toNat = w.toNat / 65536 := by
  have := w.isLt
  simp only [cntField, BitVec.extractLsb'_toNat, Nat.shiftRight_eq_div_pow]
  omega

end fieldNumbers

/-- Check 1 (30_encoding.md R67). -/
theorem opOfCode_eq_none_iff (c : BitVec 4) : opOfCode c = none ↔ c.toNat = 0 ∨ 8 ≤ c.toNat := by
  revert c; decide

/-- Check 2 (R68). -/
theorem engineFor_eq_none_iff (op : Op) (c : BitVec 4) :
    engineFor op c = none ↔ 12 ≤ c.toNat ∨ ((opCode op).toNat = 7 ∧ c.toNat ≠ 0) := by
  cases op <;> revert c <;> decide

/-- Check 3 (R69, R70). -/
theorem reservedOk_eq_false_iff (op : Op) (w : U32) :
    reservedOk op w = false ↔
      (rsvdField w).toNat ≠ 0 ∨
        ((bulkField w).toNat = 1 ∧ ((opCode op).toNat = 1 ∨ (opCode op).toNat = 2 ∨ (opCode op).toNat = 7)) ∨
        ((cntField w).toNat ≠ 0 ∧ (bulkField w).toNat = 0 ∧ (opCode op).toNat ≠ 2) := by
  have := (bulkField w).isLt
  cases op <;>
    simp only [reservedOk, opCode, Bool.and_eq_false_iff, Bool.or_eq_false_iff, decide_eq_false_iff_not,
      ← BitVec.toNat_inj, BitVec.toNat_ofNat, true_or, or_true, and_true] <;> omega

/-- Check 4 (R75), of an engine that check 2 accepts. -/
theorem pairOk_eq_false_iff {op : Op} {e : Engine} (h : engineFor op (engineCode e) = some e) :
    pairOk op e = false ↔
      ((opCode op).toNat = 1 ∧ (engineCode e).toNat = 4) ∨
        ((opCode op).toNat = 2 ∧ (engineCode e).toNat ≠ 4 ∧ (engineCode e).toNat ≠ 11) := by
  revert h
  cases op <;> cases e <;> decide

/-- The operand-word count (R71). -/
theorem operandCount_eq (op : Op) (e : Engine) (cnt : BitVec 16) :
    operandCount op e cnt =
      if (opCode op).toNat = 1 then
        (if (engineCode e).toNat = 2 ∨ (engineCode e).toNat = 9 ∨ (engineCode e).toNat = 10 then 2 else 1)
      else if (opCode op).toNat = 2 then cnt.toNat else if (opCode op).toNat = 6 then 2 else 0 := by
  cases op <;> cases e <;> rfl

/-! ### What the decoder makes of a word -/

theorem checkWord_illegalOp {w : U32} (h : opOfCode (opField w) = none) : checkWord w = .error .illegalOp := by
  simp only [checkWord, h]

section afterCheck1

variable {w : U32} {op : Op} (ho : opOfCode (opField w) = some op)
include ho

theorem checkWord_illegalEngine (h : engineFor op (engField w) = none) : checkWord w = .error .illegalEngine := by
  simp only [checkWord, ho, h]

/-- Checks 3 and 4, of a word whose OP and ENG are not reserved. -/
theorem checkWord_of_codes {e : Engine} (he : engineFor op (engField w) = some e) :
    checkWord w =
      if reservedOk op w = false then .error .reservedField
      else if pairOk op e = false then .error .unsupported
      else .ok (op, e) := by
  simp only [checkWord, ho, he]

end afterCheck1

/-- The operand words of a word that fails checks 1 to 4 are discarded (R71). -/
theorem decode_of_error {w : U32} {c : Cause} (h : checkWord w = .error c) (ops : List U64) :
    decode w ops = .fault c := by
  simp only [decode, h]

/-- With the operand words R71 fixes the builder makes a command of every pair of R75. -/
theorem build_of_length {op : Op} {e : Engine} {w : U32} {ops : List U64} (hpair : pairOk op e = true)
    (hlen : ops.length = operandCount op e (cntField w)) : ∃ i, build op e w ops = some i := by
  cases op with
  | seed =>
    cases e
    case xs1024s => cases hpair
    case xs128 | pcg64LcgXslrr | pcg64McgXslrr =>
      obtain ⟨a, b, rfl⟩ := List.length_eq_two.1 hlen
      exact ⟨_, rfl⟩
    all_goals
      obtain ⟨a, rfl⟩ := List.length_eq_one_iff.1 hlen
      exact ⟨_, rfl⟩
  | seeda =>
    obtain rfl | rfl : e = .xs1024s ∨ e = .mt64 := by simpa [pairOk] using hpair
    all_goals exact ⟨_, rfl⟩
  | genrr =>
    obtain ⟨lo, hi, rfl⟩ := List.length_eq_two.1 hlen
    exact ⟨_, rfl⟩
  | gen | genr | genrc | status =>
    obtain rfl := List.eq_nil_of_length_eq_zero hlen
    exact ⟨_, rfl⟩

/-- Check 5: a word that passes checks 1 to 4 is a command with the operand words R71 fixes. -/
theorem decode_of_length {w : U32} {ops : List U64} {op : Op} {e : Engine} (hc : checkWord w = .ok (op, e))
    (hlen : ops.length = operandCount op e (cntField w)) : ∃ i, decode w ops = .instr i := by
  obtain ⟨-, -, -, hpair⟩ := checkWord_ok hc
  obtain ⟨i, hi⟩ := build_of_length hpair hlen
  exact ⟨i, decode_of_checkWord hc hlen hi⟩

/-- It is none with any other number of them. -/
theorem decode_of_length_ne {w : U32} {ops : List U64} {op : Op} {e : Engine} (hc : checkWord w = .ok (op, e))
    (hlen : ops.length ≠ operandCount op e (cntField w)) : decode w ops = .wrongOperandCount := by
  simp only [decode, hc, hlen, ↓reduceIte]

end Sys2Proof

namespace Sys2Proof.Laws

open Sys2Proof.Machine Sys2Proof.Safety

/-- A step on a transaction that fails one of checks 1 to 4 takes its fault (60_exceptions.md R344). -/
theorem step_of_error {s : State} {w : U32} {ops : List U64} {rest : List HostAction} {c : Cause}
    (hp : s.pending = .command w ops :: rest) (hc : checkWord w = .error c) :
    ∃ t, step s = .next t ∧ Faulted (causeCode c) (s.setPending rest) t := by
  rw [step_command hp, decode_of_error hc]
  exact ⟨_, rfl, takeFault_faulted c _⟩

/-- A step on a transaction whose OP and ENG are not reserved: checks 3, 4 and 5 in their order. -/
theorem step_of_codes {s : State} {w : U32} {ops : List U64} {rest : List HostAction} {op : Op} {e : Engine}
    (hp : s.pending = .command w ops :: rest) (ho : opOfCode (opField w) = some op)
    (he : engineFor op (engField w) = some e) :
    if reservedOk op w = false then ∃ t, step s = .next t ∧ Faulted 3#4 (s.setPending rest) t
    else if pairOk op e = false then ∃ t, step s = .next t ∧ Faulted 4#4 (s.setPending rest) t
    else if ops.length ≠ operandCount op e (cntField w) then step s = .refused .operandCount
    else ∃ i, decode w ops = .instr i ∧ step s = exec i (s.setPending rest) := by
  have hcheck := checkWord_of_codes ho he
  split_ifs at hcheck ⊢ with hres hpair hlen
  · exact step_of_error hp hcheck
  · exact step_of_error hp hcheck
  · rw [step_command hp, decode_of_length_ne hcheck hlen]
  · obtain ⟨i, hi⟩ := decode_of_length hcheck (not_not.1 hlen)
    exact ⟨i, hi, step_of_decode hp hi⟩

/-! ### One response (30_encoding.md R74) -/

/-- Taking a fault returns a response of R74. -/
theorem responseOk_fault (c : Cause) : responseOk ⟨causeCode c, []⟩ := ⟨(causeCode_range c).2, fun _ => rfl⟩

/-- Completing returns a response of R74, whatever the results. -/
theorem responseOk_ok (results : List U64) : responseOk ⟨0#4, results⟩ := ⟨Nat.zero_le 7, fun h => absurd rfl h⟩

/-- A command that answers a next state returns one response, and takes none of the host's actions. -/
theorem exec_responds {i : Instr} {s t : State} (h : exec i s = .next t) :
    t.pending = s.pending ∧ ∃ r, t.responses = s.responses ++ [r] ∧ responseOk r := by
  obtain ⟨-, rfl⟩ | ⟨e, -, v, -, rfl⟩ | ⟨e, rep, -, -, fin, rfl⟩ | ⟨c, -, rfl⟩ := exec_next h
  · exact ⟨rfl, _, rfl, responseOk_ok _⟩
  · obtain ⟨hresp, -, -, hpend⟩ := putEngine_completed e v s []
    exact ⟨hpend, _, hresp, responseOk_ok _⟩
  · obtain ⟨hresp, -, -, hpend⟩ := generated_completed e (repeatCount rep) fin s
    exact ⟨hpend, _, hresp, responseOk_ok _⟩
  · exact ⟨rfl, _, rfl, responseOk_fault c⟩

/-! ### No calls (R69) -/

/-- A generation command of no calls leaves all but its response, which has no words. -/
theorem generated_zero {e : Engine} {fin : Finish e} (hf : Joins fin) (s : State) :
    generated e 0 fin s = s.respond 0#4 [] := by
  simp only [generated, runN_zero, hf.nil, putEngine_getEngine]
  rfl

end Sys2Proof.Laws

namespace Sys2Proof.Machine

/-! ### The assembler (R78) -/

/-- What the assembler answers is well formed: a longer key is refused. -/
theorem wellFormed_of_assemble {line : String} {i : Instr} (h : assemble line = .ok i) : i.wellFormed = true := by
  unfold assemble at h
  split at h
  · cases h
  · split at h
    · cases h
      assumption
    · cases h

end Sys2Proof.Machine

namespace Sys2Proof.Proofs

open Sys2Proof.Machine Sys2Proof.Safety Sys2Proof.Laws

/-- Settles O1, by the builder that makes the command. -/
theorem decodeOfEncodeIsTheCommand : Obligations.DecodeOfEncodeIsTheCommand :=
  fun _ h => decode_encode h

/-- Settles O2, by the operation the word names. -/
theorem encodeOfDecodeIsTheTransaction : Obligations.EncodeOfDecodeIsTheTransaction :=
  fun _ _ _ h => encode_of_decode h

/-- Settles O4: the checks in their order, each decided by the word's fields. -/
theorem encodingChecksInOrder : Obligations.EncodingChecksInOrder := by
  intro s w ops rest hp op eng rsvd bulk cnt n
  have hrsvd : rsvd = (rsvdField w).toNat := (toNat_rsvdField w).symm
  have hbulk : bulk = (bulkField w).toNat := (toNat_bulkField w).symm
  have hcnt : cnt = (cntField w).toNat := (toNat_cntField w).symm
  cases ho : opOfCode (opField w) with
  | none =>
    have hop : op = (opField w).toNat := (toNat_opField w).symm
    rw [if_pos (hop ▸ (opOfCode_eq_none_iff _).1 ho)]
    exact step_of_error hp (checkWord_illegalOp ho)
  | some o =>
    have hop : op = (opCode o).toNat := by rw [opCode_of_opOfCode ho, toNat_opField]
    rw [if_neg (by rw [hop]; cases o <;> decide)]
    cases he : engineFor o (engField w) with
    | none =>
      have heng : eng = (engField w).toNat := (toNat_engField w).symm
      rw [if_pos (by rw [hop, heng]; exact (engineFor_eq_none_iff _ _).1 he)]
      exact step_of_error hp (checkWord_illegalEngine ho he)
    | some e =>
      have hcode : engineCode e = engField w := engineCode_of_engineOfCode (engineOfCode_of_engineFor he)
      have heng : eng = (engineCode e).toNat := by rw [hcode, toNat_engField]
      have hn : n = operandCount o e (cntField w) := by rw [operandCount_eq, ← hop, ← heng, ← hcnt]
      have he' : engineFor o (engineCode e) = some e := hcode ▸ he
      simpa only [hn, hop, heng, hrsvd, hbulk, hcnt, ← engineFor_eq_none_iff, ← reservedOk_eq_false_iff,
        ← pairOk_eq_false_iff he', he', reduceCtorEq, ↓reduceIte] using step_of_codes hp ho he

/-- Settles O9, by the cases of a step that answers a next state. -/
theorem oneResponsePerCommand : Obligations.OneResponsePerCommand := by
  intro s t ht
  obtain ⟨hp, rfl⟩ | ⟨rest, hp, rfl⟩ | ⟨w, ops, rest, i, hp, -, hx⟩ | ⟨w, ops, rest, c, hp, -, rfl⟩ := step_next ht
  · exact .inl ⟨hp, rfl⟩
  · exact .inr (.inl ⟨rest, hp, rfl, rfl⟩)
  · obtain ⟨hpend, r, hresp, hok⟩ := exec_responds hx
    exact .inr (.inr ⟨w, ops, rest, r, hp, hpend, hresp, hok⟩)
  · exact .inr (.inr ⟨w, ops, rest, _, hp, rfl, rfl, responseOk_fault c⟩)

/-- Settles O34: no calls of the engine's step, and the response of no words. -/
theorem zeroRepetitionsChangeNothing : Obligations.ZeroRepetitionsChangeNothing := by
  intro i e s hi hs
  obtain ⟨fin, hf, hexec⟩ := exec_withRepeat hi
  calc exec i s = exec (withRepeat (.bulk 0#16) i) s := by rw [withRepeat_of_generation hi]
    _ = generationOutcome e 0 fin s := hexec _ s
    _ = .next (generated e 0 fin s) := generationOutcome_of_ready hs 0 fin
    _ = .next (s.respond 0#4 []) := by rw [generated_zero hf]

/-- Settles O56: what the assembler answers is well formed, and so is decoded from its encoding. -/
theorem assembledLinesAreValidCommands : Obligations.AssembledLinesAreValidCommands :=
  fun _ _ h => ⟨wellFormed_of_assemble h, decode_encode (wellFormed_of_assemble h)⟩

/-- Settles O3: each row's words are the encoding of its command. -/
theorem workedEncodingsDecode : Obligations.WorkedEncodingsDecode := by
  refine ⟨?_, ?_, ?_, ?_, ?_, ?_, ?_, ?_, ?_⟩ <;> exact decode_eq_instr_iff.2 ⟨rfl, rfl⟩

end Sys2Proof.Proofs
end

section
/-! SUPPORT. The xorshift engines (40_xorshift.md): their steps as the spec's lines, the ring of XS1024S and its cursor,
what a seeding command stores and what a GEN command of a seeded engine leaves; and the statements about them. -/

namespace Sys2Proof.Machine

/-! ### The ring of XS1024S (R114) -/

section ring

variable (s : Vector U64 16) (p : BitVec 4) (v : U64)

theorem getElem?_ringGet : s[p.toNat]? = some (ringGet s p) := Vector.getElem?_eq_getElem p.isLt

theorem getElem?_ringSet (j : Nat) : (ringSet s p v)[j]? = if j = p.toNat then some v else s[j]? := by
  simp only [ringSet, Vector.getElem?_set, eq_comm]

@[simp] theorem ringGet_ringSet : ringGet (ringSet s p v) p = v := Vector.getElem_set_self p.isLt

@[simp] theorem ringGet_replicate : ringGet (Vector.replicate 16 v) p = v := Vector.get_replicate 16 v p.toFin

@[simp] theorem ringSet_replicate : ringSet (Vector.replicate 16 v) p v = Vector.replicate 16 v :=
  Vector.ext fun i hi => by simp [ringSet]

end ring

/-- The word XS1024S writes: the mix of the old word in the new slot with the previous slot. -/
def ringMix (c : Params) (prev old : U64) : U64 :=
  let s1 := old ^^^ (old <<< c.xs1024sA)
  s1 ^^^ prev ^^^ (s1 >>> c.xs1024sB) ^^^ (prev >>> c.xs1024sC)

/-- The cursor's mask keeps all of its four bits, so the advance is addition modulo 16. -/
theorem xs1024sStep_eq (c : Params) (e : Xs1024sEngine) :
    xs1024sStep c e =
      ⟨ringSet e.s (e.p + 1#4) (ringMix c (ringGet e.s e.p) (ringGet e.s (e.p + 1#4))), e.p + 1#4, e.seeded⟩ := by
  have hmask : (e.p + 1#4) &&& 15#4 = e.p + 1#4 := BitVec.and_allOnes
  simp only [xs1024sStep, hmask, ringMix]

/-- The output before the multiplication is the word just written. -/
theorem ringGet_xs1024sStep (c : Params) (e : Xs1024sEngine) :
    ringGet (xs1024sStep c e).s (xs1024sStep c e).p = ringMix c (ringGet e.s e.p) (ringGet e.s (e.p + 1#4)) := by
  rw [xs1024sStep_eq, ringGet_ringSet]

/-! ### The zero state (R117) -/

@[simp] theorem xs32Step_zero (c : Params) : xs32Step c 0#32 = 0#32 := by simp [xs32Step]

@[simp] theorem xs64Step_zero (c : Params) : xs64Step c 0#64 = 0#64 := by simp [xs64Step]

@[simp] theorem xs64sStep_zero (c : Params) : xs64sStep c 0#64 = 0#64 := by simp [xs64sStep]

@[simp] theorem xs128Step_zero (c : Params) (b : Bool) : xs128Step c ⟨0, 0, 0, 0, b⟩ = ⟨0, 0, 0, 0, b⟩ := by
  simp [xs128Step]

theorem xs128Word_zero (b : Bool) : xs128Word ⟨0, 0, 0, 0, b⟩ = 0#128 := by simp [xs128Word]

@[simp] theorem ringMix_zero (c : Params) : ringMix c 0#64 0#64 = 0#64 := by simp [ringMix]

/-- A ring of zeros stays so, whatever the cursor. -/
theorem xs1024sStep_zero {c : Params} {e : Xs1024sEngine} (h : e.s = Vector.replicate 16 0#64) :
    (xs1024sStep c e).s = Vector.replicate 16 0#64 := by
  simp [xs1024sStep_eq, h]

/-! ### Result words (30_encoding.md R73) -/

/-- The result words of a zero value. -/
theorem emitWords_zero (w : Nat) : emitWords (0#w) = List.replicate (if w = 128 then 2 else 1) 0#64 := by
  unfold emitWords
  split
  · subst w
    rfl
  · simp

/-- The two result words of XS128's state are its halves. -/
theorem emitWords_xs128Word (e : Xs128Engine) : emitWords (xs128Word e) = [e.s0 ++ e.s1, e.s2 ++ e.s3] := by
  have hassoc : xs128Word e = (e.s0 ++ e.s1) ++ (e.s2 ++ e.s3) :=
    BitVec.append_assoc (x₁ := e.s0 ++ e.s1) (x₂ := e.s2) (x₃ := e.s3)
  have hhi : (xs128Word e).extractLsb' 64 64 = e.s0 ++ e.s1 := by
    rw [hassoc]
    exact BitVec.extractLsb'_append_eq_left
  have hlo : (xs128Word e).extractLsb' 0 64 = e.s2 ++ e.s3 := by
    rw [hassoc]
    exact BitVec.extractLsb'_append_eq_right
  rw [emitWords_128, hhi, hlo]

/-! ### Repeated steps -/

/-- A step whose output is `a` wherever an invariant of its own holds outputs `a` at every call. -/
theorem runN_outputs_of_invariant {σ α : Type} {step : σ → α × σ} {P : σ → Prop} {a : α}
    (hout : ∀ v, P v → (step v).1 = a) (hkeep : ∀ v, P v → P (step v).2) (n : Nat) {v : σ} (hv : P v) :
    (runN step n v).1 = List.replicate n a := by
  induction n generalizing v with
  | zero => rfl
  | succ n ih => rw [runN_succ, hout v hv, ih (hkeep v hv), List.replicate_succ]

/-! ### The operands of SEED (30_encoding.md R72) and of SEEDA.XS1024S (R115) -/

/-- The seed of XS128, sliced high to low, is the two halves of the first operand word and those of the second. -/
theorem xs128OfSeed_seed128 (a b : U64) :
    xs128OfSeed (seed128 a b) =
      ⟨a.extractLsb' 32 32, a.setWidth 32, b.extractLsb' 32 32, b.setWidth 32, true⟩ := by
  simp only [xs128OfSeed, BitVec.setWidth_eq_extractLsb' (show 32 ≤ 64 by decide), Xs128Engine.mk.injEq, and_true]
  exact ⟨BitVec.extractLsb'_append_eq_of_le (by decide), BitVec.extractLsb'_append_eq_of_le (by decide),
    BitVec.extractLsb'_append_eq_of_add_le (by decide), BitVec.extractLsb'_append_eq_of_add_le (by decide)⟩

theorem execSeedaXs1024s_of_length {key : List U64} (h : key.length = 16) (s : State) :
    execSeedaXs1024s key s = complete [] (s.setXs1024s ⟨⟨key.toArray, h⟩, 0#4, true⟩) := by
  have hmax : ¬ params.mtMaxKeyLen < key.length := by rw [h]; decide
  simp only [execSeedaXs1024s, if_neg hmax, dif_pos h]
  rfl

theorem execSeedaXs1024s_of_length_ne {key : List U64} (h : key.length ≠ 16) (hmax : key.length ≤ 65535) (s : State) :
    execSeedaXs1024s key s = .next (takeFault .badKeyLength s) := by
  have hmax : ¬ params.mtMaxKeyLen < key.length := Nat.not_lt.2 hmax
  simp only [execSeedaXs1024s, if_neg hmax, dif_neg h, raise]

end Sys2Proof.Machine

namespace Sys2Proof.Laws

open Sys2Proof.Machine Sys2Proof.Safety

/-! ### What a command leaves -/

/-- A command that puts an engine and completes leaves that engine as put and the draws as they were. -/
theorem next_of_complete_putEngine {i : Instr} {e : Engine} {v : EngineState e} {s : State}
    (h : exec i s = complete [] (putEngine e v s)) :
    ∃ t, exec i s = .next t ∧ getEngine e t.toBlock = v ∧ Completed [] e s t ∧ t.draws = s.draws :=
  ⟨_, h, getEngine_putEngine e v s, putEngine_completed e v s [], putEngine_draws e v s⟩

section gen

variable {e : Engine} {s : State}

/-- GEN of a seeded engine but MT64, which alone asserts something more, generates. -/
theorem exec_gen_of_seeded (he : e ≠ .mt64) (hs : seeded s.toBlock e = true) (rep : Repeat) :
    exec (buildGen rep e) s = .next (generated e (repeatCount rep) (rawFinish e) s) :=
  (exec_gen rep e s).trans (generationOutcome_of_ready ⟨hs, fun h => absurd h he⟩ _ _)

/-- One repetition of GEN is one call of the engine's step. -/
theorem gen_single {ws : List U64} (he : e ≠ .mt64) (hs : seeded s.toBlock e = true)
    (hws : emitWords (stepEngine e (getEngine e s.toBlock)).1 = ws) :
    ∃ t, exec (buildGen .single e) s = .next t ∧
      getEngine e t.toBlock = (stepEngine e (getEngine e s.toBlock)).2 ∧ Completed ws e s t ∧ t.draws = s.draws := by
  refine ⟨_, exec_gen_of_seeded he hs .single, getEngine_generated e 1 _ s, ?_, generated_draws e 1 _ s⟩
  have hresults : (rawFinish e (runN (stepEngine e) 1 (getEngine e s.toBlock)).1 s.draws).1 = ws :=
    (List.append_nil _).trans hws
  exact hresults ▸ generated_completed e 1 (rawFinish e) s

/-- GEN from a state of the engine with an invariant that each call keeps, and under which each call outputs 0: the
invariant is kept, and every result word is 0. -/
theorem gen_zeros_of_invariant {P : EngineState e → Prop} (hout : ∀ v, P v → (stepEngine e v).1 = 0)
    (hkeep : ∀ v, P v → P (stepEngine e v).2) (hP : P (getEngine e s.toBlock)) (he : e ≠ .mt64)
    (hs : seeded s.toBlock e = true) (rep : Repeat) :
    ∃ t, exec (buildGen rep e) s = .next t ∧ P (getEngine e t.toBlock) ∧
      Completed (List.replicate ((if width e = 128 then 2 else 1) * repeatCount rep) 0#64) e s t := by
  refine ⟨_, exec_gen_of_seeded he hs rep, ?_, ?_⟩
  · rw [getEngine_generated]
    exact runN_keeps _ hkeep _ _ hP
  · have hwords : (rawFinish e (runN (stepEngine e) (repeatCount rep) (getEngine e s.toBlock)).1 s.draws).1 =
        List.replicate ((if width e = 128 then 2 else 1) * repeatCount rep) 0#64 := by
      rw [runN_outputs_of_invariant hout hkeep _ hP, Nat.mul_comm, rawFinish, List.flatMap_replicate]
      exact (congrArg _ (congrArg _ (emitWords_zero _))).trans List.flatten_replicate_replicate
    exact hwords ▸ generated_completed e (repeatCount rep) (rawFinish e) s

/-- GEN from a state of the engine that a call leaves, with output 0: the block is left, and every result word is 0. -/
theorem gen_zeros_of_fixed {v : EngineState e} (hfix : stepEngine e v = (0, v)) (hv : getEngine e s.toBlock = v)
    (he : e ≠ .mt64) (hs : engineSeeded e v = true) (rep : Repeat) :
    ∃ t, exec (buildGen rep e) s = .next t ∧ t.toBlock = s.toBlock ∧
      t.responses =
        s.responses ++ [⟨0#4, List.replicate ((if width e = 128 then 2 else 1) * repeatCount rep) 0#64⟩] := by
  obtain ⟨t, ht, hvt, hresp, hothers, hfaults, -⟩ := gen_zeros_of_invariant (P := (· = v))
    (by rintro _ rfl; rw [hfix]) (by rintro _ rfl; rw [hfix]) hv he (by rwa [seeded_eq, hv]) rep
  refine ⟨t, ht, block_ext (fun g => ?_) hfaults, hresp⟩
  by_cases hg : g = e
  · rw [hg, hvt, hv]
  · exact (sameEngine_iff g _ _).1 (hothers g hg)

end gen

/-! ### The steps on a zero state (R117) -/

theorem stepEngine_xs32_zero (b : Bool) : stepEngine .xs32 ⟨0, b⟩ = (0, ⟨0, b⟩) :=
  Prod.ext (xs32Step_zero params) (congrArg (XsEngine.mk · b) (xs32Step_zero params))

theorem stepEngine_xs64_zero (b : Bool) : stepEngine .xs64 ⟨0, b⟩ = (0, ⟨0, b⟩) :=
  Prod.ext (xs64Step_zero params) (congrArg (XsEngine.mk · b) (xs64Step_zero params))

theorem stepEngine_xs128_zero (b : Bool) : stepEngine .xs128 ⟨0, 0, 0, 0, b⟩ = (0, ⟨0, 0, 0, 0, b⟩) :=
  Prod.ext ((congrArg xs128Word (xs128Step_zero params b)).trans (xs128Word_zero b)) (xs128Step_zero params b)

theorem stepEngine_xs64s_zero (b : Bool) : stepEngine .xs64s ⟨0, b⟩ = (0, ⟨0, b⟩) :=
  Prod.ext ((congrArg (· * params.xs64sMult) (xs64sStep_zero params)).trans BitVec.zero_mul)
    (congrArg (XsEngine.mk · b) (xs64sStep_zero params))

theorem stepEngine_xs1024s_output_of_zero {v : Xs1024sEngine} (h : v.s = Vector.replicate 16 0#64) :
    (stepEngine .xs1024s v).1 = 0 := by
  show ringGet (xs1024sStep params v).s _ * params.xs1024sMult = 0#64
  rw [xs1024sStep_zero h, ringGet_replicate, BitVec.zero_mul]

/-! ### The cursor of XS1024S (R118) -/

theorem toNat_p_xs1024sStep (c : Params) (v : Xs1024sEngine) :
    (xs1024sStep c v).p.toNat = (v.p.toNat + 1) % 16 := by
  rw [xs1024sStep_eq]
  exact BitVec.toNat_add _ _

/-- `n` calls advance the cursor by `n` modulo 16. -/
theorem toNat_p_run_xs1024s (n : Nat) (v : Xs1024sEngine) :
    (runN (stepEngine .xs1024s) n v).2.p.toNat = (v.p.toNat + n) % 16 := by
  induction n generalizing v with
  | zero => exact (Nat.mod_eq_of_lt v.p.isLt).symm
  | succ n ih =>
    calc (runN (stepEngine .xs1024s) n (xs1024sStep params v)).2.p.toNat
        = ((v.p.toNat + 1) % 16 + n) % 16 := by rw [ih, toNat_p_xs1024sStep]
      _ = (v.p.toNat + (n + 1)) % 16 := by omega

end Sys2Proof.Laws

namespace Sys2Proof.Proofs

open Sys2Proof.Machine Sys2Proof.Safety Sys2Proof.Laws

/-- Settles O28: one call of the step, whose word is `ringMix` of the two slots it reads. -/
theorem genXs1024sOneWord : Obligations.GenXs1024sOneWord := by
  intro s hs
  obtain ⟨t, ht, hstep, hcompleted, hdraws⟩ := gen_single (e := .xs1024s) (by decide) hs
    ((emitWords_64 _).trans (congrArg (fun w => [w * params.xs1024sMult]) (ringGet_xs1024sStep params s.xs1024s)))
  have hte : t.xs1024s = xs1024sStep params s.xs1024s := hstep
  rw [xs1024sStep_eq] at hte
  refine ⟨t, ringMix params (ringGet s.xs1024s.s s.xs1024s.p) (ringGet s.xs1024s.s (s.xs1024s.p + 1#4)), ht,
    ?_, ?_, ?_, ?_, hcompleted, hdraws⟩
  · rw [hte]
    exact BitVec.toNat_add _ _
  · rw [hte]
    exact hs
  · intro j _
    rw [hte, getElem?_ringSet]
  · intro s0 old hs0 hold
    rw [hte] at hold
    rw [getElem?_ringGet, Option.some.injEq] at hs0 hold
    rw [hs0, hold]
    rfl

/-- Settles O39: the zero state is a fixed point of four steps, and a ring of zeros an invariant of the fifth. -/
theorem zeroStateIsAFixedPoint : Obligations.ZeroStateIsAFixedPoint := by
  intro s rep
  refine ⟨fun h => ?_, fun h => ?_, fun h => ?_, fun h => ?_, fun hring hseeded => ?_⟩
  · simpa [width, buildGen] using gen_zeros_of_fixed (stepEngine_xs32_zero true) h (by decide) rfl rep
  · simpa [width, buildGen] using gen_zeros_of_fixed (stepEngine_xs64_zero true) h (by decide) rfl rep
  · simpa [width, buildGen] using gen_zeros_of_fixed (stepEngine_xs128_zero true) h (by decide) rfl rep
  · simpa [width, buildGen] using gen_zeros_of_fixed (stepEngine_xs64s_zero true) h (by decide) rfl rep
  · obtain ⟨t, ht, hzero, hresp, -⟩ := gen_zeros_of_invariant (e := .xs1024s)
      (fun _ => stepEngine_xs1024s_output_of_zero) (fun _ => xs1024sStep_zero) hring (by decide) hseeded rep
    exact ⟨t, ht, hzero.trans hring.symm, by simpa [width] using hresp⟩

/-- Settles O40: `n` calls of the step, each one place further. -/
theorem ringCursorWraps : Obligations.RingCursorWraps := by
  intro s n hs
  have hp := toNat_p_run_xs1024s n.toNat s.xs1024s
  refine ⟨_, exec_gen_of_seeded (e := .xs1024s) (by decide) hs (.bulk n), hp,
    fun hn => BitVec.eq_of_toNat_eq (hp.trans ?_)⟩
  calc (s.xs1024s.p.toNat + n.toNat) % 16 = (s.xs1024s.p.toNat + 16) % 16 := by rw [hn]; rfl
    _ = s.xs1024s.p.toNat := by rw [Nat.add_mod_right, Nat.mod_eq_of_lt s.xs1024s.p.isLt]

/-- Settles O19: each command puts the engine with its operand words. -/
theorem seedXorshiftStoresTheSeed : Obligations.SeedXorshiftStoresTheSeed := by
  intro a b s
  refine ⟨?_, next_of_complete_putEngine (e := .xs64) rfl, ?_, next_of_complete_putEngine (e := .xs64s) rfl⟩
  · rw [BitVec.setWidth_eq_extractLsb' (by decide)]
    exact next_of_complete_putEngine (e := .xs32) rfl
  · rw [← xs128OfSeed_seed128]
    exact next_of_complete_putEngine (e := .xs128) rfl

/-- Settles O21, by the two arms of the command that a key within the length limit reaches. -/
theorem seedaXs1024sStoresTheKey : Obligations.SeedaXs1024sStoresTheKey := by
  refine fun key s => ⟨fun hlen => ?_, fun hlen hmax => ?_⟩
  · obtain ⟨t, ht, hput, hcompleted, hdraws⟩ :=
      next_of_complete_putEngine (i := .seedaXs1024s key) (e := .xs1024s) (execSeedaXs1024s_of_length hlen s)
    have hte : t.xs1024s = ⟨⟨key.toArray, hlen⟩, 0#4, true⟩ := hput
    exact ⟨t, ht, by rw [hte]; rfl, by rw [hte], by rw [hte], hcompleted, hdraws⟩
  · exact ⟨_, execSeedaXs1024s_of_length_ne hlen hmax s, takeFault_faulted .badKeyLength s⟩

/-- Settles O26: one call of each engine's step. -/
theorem genXorshiftOneWord : Obligations.GenXorshiftOneWord := by
  refine fun s => ⟨fun hs => ?_, fun hs => ?_, fun hs => ?_⟩
  · obtain ⟨t, ht, hstep, hleft⟩ := gen_single (e := .xs32) (by decide) hs (emitWords_32 _)
    exact ⟨t, ht, hstep.trans (congrArg (XsEngine.mk _) hs), hleft⟩
  · obtain ⟨t, ht, hstep, hleft⟩ := gen_single (e := .xs64) (by decide) hs (emitWords_64 _)
    exact ⟨t, ht, hstep.trans (congrArg (XsEngine.mk _) hs), hleft⟩
  · obtain ⟨t, ht, hstep, hleft⟩ := gen_single (e := .xs64s) (by decide) hs (emitWords_64 _)
    exact ⟨t, ht, hstep.trans (congrArg (XsEngine.mk _) hs), hleft⟩

/-- Settles O27: one call of the step, whose output is the whole new state. -/
theorem genXs128TwoWords : Obligations.GenXs128TwoWords := by
  intro s hs
  obtain ⟨t, ht, hstep, hleft⟩ := gen_single (e := .xs128) (by decide) hs (emitWords_xs128Word _)
  exact ⟨t, ht, hstep.trans (congrArg (Xs128Engine.mk _ _ _ _) hs), hleft⟩

end Sys2Proof.Proofs
end

section
/-! SUPPORT. The PCG engines (41_pcg.md): the output permutations as rotations and shifts by counts that are numbers,
the MCG step on its trailing zero bits and on the zero state, what the seeding and GEN commands leave; and the
statements about them. -/

namespace Sys2Proof.Machine

/-! ### The output permutations (R152 to R154) -/

/-- `rotr_w(v, r)` (00_scope.md R7) by a count within the width is the library's rotation. -/
theorem rotr_eq_rotateRight {w r : Nat} (v : BitVec w) (h : r < w) : rotr v r = v.rotateRight r := by
  rw [BitVec.rotateRight_eq_rotateRightAux_of_lt h, rotr, BitVec.rotateRightAux]
  split
  · subst r
    simp
  · rfl

/-- The count a permutation takes from the state's top bits. -/
theorem toNat_ushiftRight_eq_div {w : Nat} (st : BitVec w) (k : Nat) : (st >>> k).toNat = st.toNat / 2 ^ k := by
  rw [BitVec.toNat_ushiftRight, Nat.shiftRight_eq_div_pow]

/-- The result word of XSH_RR; its count has 5 bits. -/
theorem emitWords_xshRr (st : U64) :
    emitWords (xshRr params st) =
      [(BitVec.rotateRight (((st ^^^ (st >>> 18)) >>> 27).setWidth 32) (st.toNat / 2 ^ 59)).setWidth 64] := by
  have hcnt : (st >>> 59).toNat < 32 := by
    rw [toNat_ushiftRight_eq_div]
    omega
  rw [emitWords_32, ← toNat_ushiftRight_eq_div, ← rotr_eq_rotateRight _ hcnt]
  rfl

theorem emitWords_xshRs (st : U64) :
    emitWords (xshRs params st) =
      [((((st >>> 22) ^^^ st) >>> (22 + st.toNat / 2 ^ 61)).setWidth 32).setWidth 64] := by
  rw [emitWords_32, ← toNat_ushiftRight_eq_div]
  rfl

/-- The result word of XSL_RR; its count has 6 bits. -/
theorem emitWords_xslRr (st : U128) :
    emitWords (xslRr params st) =
      [BitVec.rotateRight (st.extractLsb' 64 64 ^^^ st.setWidth 64) (st.toNat / 2 ^ 122)] := by
  have hcnt : (st >>> 122).toNat < 64 := by
    rw [toNat_ushiftRight_eq_div]
    omega
  rw [emitWords_64, ← toNat_ushiftRight_eq_div, ← rotr_eq_rotateRight _ hcnt,
    BitVec.setWidth_eq_extractLsb' (by decide)]
  rfl

/-! ### The zero state of an MCG engine (R168) -/

@[simp] theorem rotr_zero (w r : Nat) : rotr (0#w) r = 0#w := by simp [rotr]

@[simp] theorem xshRr_zero (c : Params) : xshRr c 0#64 = 0#32 := by simp [xshRr]

@[simp] theorem xshRs_zero (c : Params) : xshRs c 0#64 = 0#32 := by simp [xshRs]

@[simp] theorem xslRr_zero (c : Params) : xslRr c 0#128 = 0#64 := by simp [xslRr]

@[simp] theorem advance64_mcg_zero (c : Params) : advance64 c false 0#64 = 0#64 := BitVec.zero_mul

@[simp] theorem advance128_mcg_zero (c : Params) : advance128 c false 0#128 = 0#128 := BitVec.zero_mul

/-! ### The trailing zero bits of an MCG state (R168) -/

/-- Multiplication by an odd constant keeps the trailing zero bits: the wrap at the width takes multiples of 2^k, and
2^k has no factor in common with the constant. -/
theorem two_pow_dvd_toNat_mul_odd {w k : Nat} (hk : k ≤ w) {c : BitVec w} (hc : Odd c.toNat) (st : BitVec w) :
    2 ^ k ∣ (st * c).toNat ↔ 2 ^ k ∣ st.toNat := by
  have hcoprime : Nat.Coprime (2 ^ k) c.toNat := (Nat.coprime_two_left.2 hc).pow_left k
  rw [BitVec.toNat_mul, Nat.dvd_mod_iff (pow_dvd_pow 2 hk), hcoprime.dvd_mul_right]

theorem two_pow_dvd_toNat_advance64_mcg {k : Nat} (hk : k ≤ 64) (st : U64) :
    2 ^ k ∣ (advance64 params false st).toNat ↔ 2 ^ k ∣ st.toNat :=
  two_pow_dvd_toNat_mul_odd (c := params.pcg64Mult) hk (by decide) st

theorem two_pow_dvd_toNat_advance128_mcg {k : Nat} (hk : k ≤ 128) (st : U128) :
    2 ^ k ∣ (advance128 params false st).toNat ↔ 2 ^ k ∣ st.toNat :=
  two_pow_dvd_toNat_mul_odd (c := params.pcg128Mult) hk (by decide) st

/-! ### The operands of SEED (30_encoding.md R72) -/

/-- The first operand word is the high half of the seed. -/
theorem toNat_seed128 (a b : U64) : (seed128 a b).toNat = a.toNat * 2 ^ 64 + b.toNat := toNat_append_add a b

end Sys2Proof.Machine

namespace Sys2Proof.Laws

open Sys2Proof.Machine Sys2Proof.Safety

/-! ### What a GEN command leaves -/

section gen

variable {e : Engine} {s : State}

/-- One repetition of GEN leaves what the engine's step makes of its state. -/
theorem gen_single_leaves {v : EngineState e} {ws : List U64} (he : e ≠ .mt64) (hs : seeded s.toBlock e = true)
    (hv : (stepEngine e (getEngine e s.toBlock)).2 = v)
    (hws : emitWords (stepEngine e (getEngine e s.toBlock)).1 = ws) :
    ∃ t, exec (buildGen .single e) s = .next t ∧ getEngine e t.toBlock = v ∧ Completed ws e s t ∧
      t.draws = s.draws :=
  hv ▸ gen_single he hs hws

/-- What each call of an engine's step keeps, GEN keeps in every repeat form. -/
theorem gen_keeps {t : State} {rep : Repeat} {P : EngineState e → Prop} (he : e ≠ .mt64)
    (hs : seeded s.toBlock e = true) (ht : exec (buildGen rep e) s = .next t)
    (hkeep : ∀ v, P v → P (stepEngine e v).2) (hP : P (getEngine e s.toBlock)) : P (getEngine e t.toBlock) := by
  rw [exec_gen_of_seeded he hs] at ht
  cases ht
  rw [getEngine_generated]
  exact runN_keeps _ hkeep _ _ hP

end gen

/-! ### The MCG steps on the zero state (R168) -/

theorem stepEngine_pcg32McgXshrr_zero (b : Bool) : stepEngine .pcg32McgXshrr ⟨0, b⟩ = (0, ⟨0, b⟩) := by
  show (xshRr params 0#64, PcgEngine.mk (advance64 params false 0#64) b) = (0#32, ⟨0#64, b⟩)
  rw [xshRr_zero, advance64_mcg_zero]

theorem stepEngine_pcg32McgXshrs_zero (b : Bool) : stepEngine .pcg32McgXshrs ⟨0, b⟩ = (0, ⟨0, b⟩) := by
  show (xshRs params 0#64, PcgEngine.mk (advance64 params false 0#64) b) = (0#32, ⟨0#64, b⟩)
  rw [xshRs_zero, advance64_mcg_zero]

theorem stepEngine_pcg64McgXslrr_zero (b : Bool) : stepEngine .pcg64McgXslrr ⟨0, b⟩ = (0, ⟨0, b⟩) := by
  show (xslRr params 0#128, PcgEngine.mk (advance128 params false 0#128) b) = (0#64, ⟨0#128, b⟩)
  rw [xslRr_zero, advance128_mcg_zero]

/-! ### The invariant on the trailing zero bits (R168) -/

/-- The invariant of an MCG engine with the state `st` before the command: 2^k divides the state exactly where it
divides `st`. -/
def DividedAlike {w : Nat} (k : Nat) (st : BitVec w) (v : PcgEngine w) : Prop :=
  2 ^ k ∣ v.st.toNat ↔ 2 ^ k ∣ st.toNat

end Sys2Proof.Laws

namespace Sys2Proof.Proofs

open Sys2Proof.Machine Sys2Proof.Safety Sys2Proof.Laws

/-- Settles O29: one call of each engine's step, whose output is the permutation of the state before it. -/
theorem genPcg32OneWord : Obligations.GenPcg32OneWord := by
  intro s rr rs
  refine ⟨fun hs => ?_, fun hs => ?_, fun hs => ?_, fun hs => ?_⟩
  · exact gen_single_leaves (e := .pcg32LcgXshrr) (by decide) hs (congrArg (PcgEngine.mk _) hs) (emitWords_xshRr _)
  · exact gen_single_leaves (e := .pcg32LcgXshrs) (by decide) hs (congrArg (PcgEngine.mk _) hs) (emitWords_xshRs _)
  · exact gen_single_leaves (e := .pcg32McgXshrr) (by decide) hs (congrArg (PcgEngine.mk _) hs) (emitWords_xshRr _)
  · exact gen_single_leaves (e := .pcg32McgXshrs) (by decide) hs (congrArg (PcgEngine.mk _) hs) (emitWords_xshRs _)

/-- Settles O30: one call of each engine's step, whose output is the permutation of the state before it. -/
theorem genPcg64OneWord : Obligations.GenPcg64OneWord := by
  intro s rr
  refine ⟨fun hs => ?_, fun hs => ?_⟩
  · exact gen_single_leaves (e := .pcg64LcgXslrr) (by decide) hs (congrArg (PcgEngine.mk _) hs) (emitWords_xslRr _)
  · exact gen_single_leaves (e := .pcg64McgXslrr) (by decide) hs (congrArg (PcgEngine.mk _) hs) (emitWords_xslRr _)

/-- Settles O41: an MCG call multiplies by an odd constant, and has the zero state as a fixed point. -/
theorem mcgKeepsTrailingZeros : Obligations.McgKeepsTrailingZeros := by
  refine ⟨fun s t rep k => ⟨fun hk hs ht => ?_, fun hk hs ht => ?_, fun hk hs ht => ?_⟩,
    fun s rep => ⟨fun h => ?_, fun h => ?_, fun h => ?_⟩⟩
  · exact gen_keeps (e := .pcg32McgXshrr) (P := DividedAlike k s.pcg32McgXshrr.st) (by decide) hs ht
      (fun v => (two_pow_dvd_toNat_advance64_mcg hk v.st).trans) Iff.rfl
  · exact gen_keeps (e := .pcg32McgXshrs) (P := DividedAlike k s.pcg32McgXshrs.st) (by decide) hs ht
      (fun v => (two_pow_dvd_toNat_advance64_mcg hk v.st).trans) Iff.rfl
  · exact gen_keeps (e := .pcg64McgXslrr) (P := DividedAlike k s.pcg64McgXslrr.st) (by decide) hs ht
      (fun v => (two_pow_dvd_toNat_advance128_mcg hk v.st).trans) Iff.rfl
  · simpa [width, buildGen] using gen_zeros_of_fixed (stepEngine_pcg32McgXshrr_zero true) h (by decide) rfl rep
  · simpa [width, buildGen] using gen_zeros_of_fixed (stepEngine_pcg32McgXshrs_zero true) h (by decide) rfl rep
  · simpa [width, buildGen] using gen_zeros_of_fixed (stepEngine_pcg64McgXslrr_zero true) h (by decide) rfl rep

/-- Settles O20: each command puts the engine with its operand words. -/
theorem seedPcgStoresTheSeed : Obligations.SeedPcgStoresTheSeed := by
  intro a b s
  refine ⟨next_of_complete_putEngine (e := .pcg32LcgXshrr) rfl, next_of_complete_putEngine (e := .pcg32LcgXshrs) rfl,
    next_of_complete_putEngine (e := .pcg32McgXshrr) rfl, next_of_complete_putEngine (e := .pcg32McgXshrs) rfl, ?_, ?_⟩
  · obtain ⟨t, ht, hput, hleft⟩ :=
      next_of_complete_putEngine (i := .seedPcg64LcgXslrr a b) (s := s) (e := .pcg64LcgXslrr) rfl
    have hte : t.pcg64LcgXslrr = ⟨seed128 a b, true⟩ := hput
    exact ⟨t, ht, by rw [hte, toNat_seed128], by rw [hte], hleft⟩
  · obtain ⟨t, ht, hput, hleft⟩ :=
      next_of_complete_putEngine (i := .seedPcg64McgXslrr a b) (s := s) (e := .pcg64McgXslrr) rfl
    have hte : t.pcg64McgXslrr = ⟨seed128 a b, true⟩ := hput
    exact ⟨t, ht, by rw [hte, toNat_seed128], by rw [hte], hleft⟩

end Sys2Proof.Proofs
end

section
/-! SUPPORT. The MT64 engine (42_mt64.md): a key over the limit, the words of the two seedings, the words of the
twist, and one call of the engine's step, alone and repeated; and the statements about them. -/

namespace Sys2Proof.Machine

open Sys2Proof.Safety

/-! ### Keys (R210) -/

theorem execSeedaMt64_of_overlong {key : List U64} (h : 65535 < key.length) (s : State) :
    execSeedaMt64 key s = .refused .keyTooLong :=
  if_pos h

theorem execSeedaXs1024s_of_overlong {key : List U64} (h : 65535 < key.length) (s : State) :
    execSeedaXs1024s key s = .refused .keyTooLong :=
  if_pos h

theorem execSeedaMt64_nil (s : State) : execSeedaMt64 [] s = .next (takeFault .emptyKey s) := rfl

theorem execSeedaMt64_of_ne_nil {key : List U64} (hne : key ≠ []) (hmax : key.length ≤ 65535) (s : State) :
    execSeedaMt64 key s = complete [] (s.setMt64 ⟨mtInitByArray params key, 312#9⟩) := by
  have hmax : ¬ params.mtMaxKeyLen < key.length := Nat.not_lt.2 hmax
  have hlen : key.length ≠ 0 := by simpa using hne
  rw [execSeedaMt64, if_neg hmax, if_neg hlen]
  rfl

/-! ### Scalar seeding (R201) -/

/-- Each word after word 0 comes from the stored word before it. -/
theorem mtInitGenrand_getD (seed : U64) {i : Nat} (h1 : 1 ≤ i) (h2 : i ≤ 311) :
    (mtInitGenrand params seed).getD i 0#64 =
      mtInitWord params i ((mtInitGenrand params seed).getD (i - 1) 0#64) := by
  obtain ⟨j, rfl⟩ := Nat.exists_eq_add_of_le h1
  rw [Nat.add_sub_cancel_left]
  have hword := mtInitFrom_getD params 311 1 j seed (by omega)
  rw [← List.getD_cons_succ (x := seed), Nat.add_comm j 1] at hword
  exact hword

/-! ### Array seeding (R202) -/

/-- The array and its indices after `n` steps of pass 1 over the key. -/
def mtFill1 (key : List U64) (n : Nat) : MtFill :=
  times (mtPass1 params key) n ⟨mtInitGenrand params 19650218#64, 1, 0⟩

/-- The array and its indices after `n` steps of pass 2, which runs on from pass 1. -/
def mtFill2 (key : List U64) (n : Nat) : MtFill :=
  times (mtPass2 params) n (mtFill1 key (max 312 key.length))

theorem mtInitByArray_eq (key : List U64) :
    mtInitByArray params key = (mtFill2 key 311).mt.set 0 0x8000000000000000#64 := rfl

theorem mtFill1_succ (key : List U64) (n : Nat) : mtFill1 key (n + 1) = mtPass1 params key (mtFill1 key n) :=
  times_succ_last _ _ _

theorem mtFill2_succ (key : List U64) (n : Nat) : mtFill2 key (n + 1) = mtPass2 params (mtFill2 key n) :=
  times_succ_last _ _ _

/-- The range a mixing pass stays in: 312 words, and the position that `n` steps of the two passes together reach. -/
def MixedTo (n : Nat) (f : MtFill) : Prop := f.mt.length = 312 ∧ f.i = 1 + n % 311

/-- The position is one a step mixes at. -/
theorem MixedTo.position {n : Nat} {f : MtFill} (h : MixedTo n f) : 1 ≤ f.i ∧ f.i ≤ 311 := by
  obtain ⟨-, hi⟩ := h
  omega

/-- The position one step further. -/
theorem position_succ (n : Nat) : 1 + (1 + n % 311) % 311 = 1 + (n + 1) % 311 := by omega

theorem mtFill1_mixedTo {key : List U64} (hkey : key ≠ []) (n : Nat) :
    MixedTo n (mtFill1 key n) ∧ (mtFill1 key n).j = n % key.length := by
  induction n with
  | zero => exact ⟨⟨mtInitGenrand_length _, rfl⟩, (Nat.zero_mod _).symm⟩
  | succ n ih =>
    obtain ⟨hf, hj⟩ := ih
    obtain ⟨h1, h2⟩ := hf.position
    have hjlt : (mtFill1 key n).j < key.length := hj ▸ Nat.mod_lt n (List.length_pos_iff.2 hkey)
    obtain ⟨-, hi', hj'⟩ := mtPass1_mixes hf.1 h1 h2 hjlt
    rw [mtFill1_succ]
    refine ⟨⟨by rw [mtPass1_length, hf.1], by rw [hi', hf.2, position_succ]⟩, ?_⟩
    rw [hj', hj, Nat.mod_add_mod]

theorem mtFill2_mixedTo {key : List U64} (hkey : key ≠ []) (n : Nat) :
    MixedTo (max 312 key.length + n) (mtFill2 key n) := by
  induction n with
  | zero => exact (mtFill1_mixedTo hkey _).1
  | succ n ih =>
    obtain ⟨h1, h2⟩ := ih.position
    rw [mtFill2_succ]
    exact ⟨by rw [mtPass2_length, ih.1], by rw [(mtPass2_mixes ih.1 h1 h2).2, ih.2, position_succ]; rfl⟩

/-- The two passes mix the key, word by word and step by step. -/
theorem mixesKey_fill {key : List U64} (hkey : key ≠ []) :
    MixesKey key (fun n => mtGet (mtFill1 key n).mt) (fun n => mtGet (mtFill2 key n).mt) := by
  refine ⟨rfl, fun x h1 h2 => mtInitGenrand_getD _ h1 h2, fun n _ => ?_, fun _ _ => rfl, fun n _ => ?_⟩
  · obtain ⟨hf, hj⟩ := mtFill1_mixedTo hkey n
    obtain ⟨h1, h2⟩ := hf.position
    have hjlt : (mtFill1 key n).j < key.length := hj ▸ Nat.mod_lt n (List.length_pos_iff.2 hkey)
    have hstep := (mtPass1_mixes hf.1 h1 h2 hjlt).1
    rw [hf.2, hj, ← mtFill1_succ] at hstep
    exact hstep
  · have hf := mtFill2_mixedTo hkey n
    obtain ⟨h1, h2⟩ := hf.position
    have hstep := (mtPass2_mixes hf.1 h1 h2).1
    rw [hf.2, ← mtFill2_succ] at hstep
    exact hstep

/-- After the passes only word 0 is written. -/
theorem mtInitByArray_getD_of_pos (key : List U64) {x : Nat} (h : 1 ≤ x) :
    (mtInitByArray params key).getD x 0#64 = mtGet (mtFill2 key 311).mt x := by
  rw [mtInitByArray_eq, List.getD_eq_getElem?_getD, List.getElem?_set_ne (by omega), ← List.getD_eq_getElem?_getD,
    mtGet]

theorem mtInitByArray_getD_zero {key : List U64} (hkey : key ≠ []) :
    (mtInitByArray params key).getD 0 0#64 = 0x8000000000000000#64 := by
  have hlen : (mtFill2 key 311).mt.length = 312 := (mtFill2_mixedTo hkey 311).1
  rw [mtInitByArray_eq, List.getD_eq_getElem?_getD, List.getElem?_set_self (by omega)]
  rfl

/-! ### The twist (R204) -/

/-- The array part way through the twist: the positions passed hold the twisted words, the others the old ones. -/
theorem twistTo_getD (mt : List U64) {n : Nat} (hn : n ≤ 312) (i : Nat) :
    (twistTo params mt n).getD i 0#64 =
      if i < n then (mtTwist params mt).getD i 0#64 else mt.getD i 0#64 := by
  split
  · exact (twistTo_getD_of_lt params mt ‹_› hn).symm
  · exact twistTo_getD_of_le params mt (by omega)

/-- The twisted word at a place is the one the twist writes when it gets there. -/
theorem mtTwist_getD {mt : List U64} (hmt : mt.length = 312) {i : Nat} (hi : i < 312) :
    (mtTwist params mt).getD i 0#64 = mtTwistWord params (twistTo params mt i) i :=
  (twistTo_getD_of_lt params mt (Nat.lt_succ_self i) hi).trans (twistTo_getD_self params mt (by omega))

/-- The successor the twist reads at a place: the old word, but for the last place the new word 0. -/
theorem twistTo_getD_next (mt : List U64) {i : Nat} (hi : i < 312) :
    (twistTo params mt i).getD ((i + 1) % 312) 0#64 =
      if i = 311 then (mtTwist params mt).getD 0 0#64 else mt.getD (i + 1) 0#64 := by
  rw [twistTo_getD mt (by omega)]
  by_cases h : i = 311
  · rw [if_pos (by omega), if_pos h, show (i + 1) % 312 = 0 by omega]
  · rw [if_neg (by omega), if_neg h, Nat.mod_eq_of_lt (by omega)]

/-- The word 156 ahead that the twist reads at a place: the old word, from place 156 on a new one. -/
theorem twistTo_getD_ahead (mt : List U64) {i : Nat} (hi : i < 312) :
    (twistTo params mt i).getD ((i + 156) % 312) 0#64 =
      if i < 156 then mt.getD (i + 156) 0#64 else (mtTwist params mt).getD (i - 156) 0#64 := by
  rw [twistTo_getD mt (by omega)]
  by_cases h : i < 156
  · rw [if_neg (by omega), if_pos h, Nat.mod_eq_of_lt (by omega)]
  · rw [if_pos (by omega), if_neg h, show (i + 156) % 312 = i - 156 by omega]

/-! ### Repeated steps -/

/-- A step that goes along a sequence of states outputs the sequence's words in order. -/
theorem runN_of_sequence {σ α : Type} {step : σ → α × σ} {state : Nat → σ} {word : Nat → α}
    (hstep : ∀ k, step (state k) = (word k, state (k + 1))) (n k : Nat) :
    runN step n (state k) = ((List.range' k n).map word, state (k + n)) := by
  induction n generalizing k with
  | zero => rfl
  | succ n ih => rw [runN_succ, hstep, ih, List.range'_succ, List.map_cons, Nat.add_right_comm, Nat.add_assoc]

/-- The result words of 64-bit raw values are those values. -/
theorem flatMap_emitWords_64 (vs : List U64) : vs.flatMap emitWords = vs := by
  rw [show emitWords = fun v : U64 => [v] from funext emitWords_64, List.flatMap_singleton']

end Sys2Proof.Machine

namespace Sys2Proof.Laws

open Sys2Proof.Machine Sys2Proof.Safety

/-! ### One call of the step (R206) -/

/-- The word and the next state, from the engine as the word is read from it. -/
theorem stepEngine_mt64_of_ready {v w : Mt64Engine} (h : mtReady params v = w) :
    stepEngine .mt64 v = (mtTemper params (w.mt.getD w.idx.toNat 0#64), ⟨w.mt, w.idx + 1#9⟩) := by
  subst w
  rfl

/-- Short of 312 the word at the cursor is returned, and the cursor moves on. -/
theorem stepEngine_mt64_of_le {v : Mt64Engine} (h : v.idx.toNat ≤ 311) :
    stepEngine .mt64 v = (mtTemper params (v.mt.getD v.idx.toNat 0#64), ⟨v.mt, v.idx + 1#9⟩) :=
  stepEngine_mt64_of_ready (if_neg (show v.idx.toNat ≠ 312 by omega))

/-- At 312 the array is regenerated first. -/
theorem stepEngine_mt64_of_eq {v : Mt64Engine} (h : v.idx.toNat = 312) :
    stepEngine .mt64 v =
      (mtTemper params ((mtTwist params v.mt).getD 0 0#64), ⟨mtTwist params v.mt, 1#9⟩) := by
  have hready : mtReady params v = ⟨mtTwist params v.mt, 0#9⟩ := if_pos h
  rw [stepEngine_mt64_of_ready hready, BitVec.toNat_zero, BitVec.zero_add]

/-! ### Generation from a cursor at 312 (R209) -/

/-- The engine after `n` generations from a cursor at 312: regenerated once for each batch of 312 begun. -/
def mtBatch (mt : List U64) (n : Nat) : Mt64Engine :=
  ⟨times (mtTwist params) ((n + 311) / 312) mt, BitVec.ofNat 9 ((n + 311) % 312 + 1)⟩

/-- The word generation `n + 1` returns: word `n` modulo 312 of its batch. -/
def mtBatchWord (mt : List U64) (n : Nat) : U64 :=
  mtTemper params ((times (mtTwist params) (n / 312 + 1) mt).getD (n % 312) 0#64)

theorem mtBatch_idx (mt : List U64) (n : Nat) : (mtBatch mt n).idx.toNat = (n + 311) % 312 + 1 := by
  rw [mtBatch, BitVec.toNat_ofNat]
  omega

theorem stepEngine_mtBatch (mt : List U64) (n : Nat) :
    stepEngine .mt64 (mtBatch mt n) = (mtBatchWord mt n, mtBatch mt (n + 1)) := by
  have hidx := mtBatch_idx mt n
  by_cases hn : n % 312 = 0
  · have hbatch : (n + 311) / 312 = n / 312 := by omega
    have hnext : (n + 1 + 311) / 312 = n / 312 + 1 := by omega
    have hcursor : (n + 1 + 311) % 312 + 1 = 1 := by omega
    rw [stepEngine_mt64_of_eq (by omega), mtBatch, mtBatchWord, mtBatch, hbatch, hnext, hcursor, hn, times_succ_last]
  · have hbatch : (n + 311) / 312 = n / 312 + 1 := by omega
    have hnext : (n + 1 + 311) / 312 = n / 312 + 1 := by omega
    have hword : (n + 311) % 312 + 1 = n % 312 := by omega
    have hcursor : (n + 1 + 311) % 312 + 1 = n % 312 + 1 := by omega
    rw [stepEngine_mt64_of_le (by omega), hidx, mtBatch, mtBatchWord, mtBatch, hbatch, hnext, hword, hcursor,
      BitVec.ofNat_add]

/-! ### What GEN.MT64 leaves -/

/-- A cursor up to 312 lets GEN.MT64 run in every repeat form: as many calls of the step. -/
theorem genMt64_of_le {s : State} (h : s.mt64.idx.toNat ≤ 312) (rep : Repeat) :
    ∃ t, exec (.genMt64 rep) s = .next t ∧ t.mt64 = (runN (stepEngine .mt64) (repeatCount rep) s.mt64).2 ∧
      Completed (runN (stepEngine .mt64) (repeatCount rep) s.mt64).1 .mt64 s t ∧ t.draws = s.draws := by
  have hready : Ready .mt64 s := ⟨engineSeeded_mt64 h, fun _ => h⟩
  have hwords : (rawFinish .mt64 (runN (stepEngine .mt64) (repeatCount rep) s.mt64).1 s.draws).1 =
      (runN (stepEngine .mt64) (repeatCount rep) s.mt64).1 := flatMap_emitWords_64 _
  exact ⟨_, (exec_gen rep .mt64 s).trans (generationOutcome_of_ready hready _ _), getEngine_generated .mt64 _ _ s,
    hwords ▸ generated_completed .mt64 (repeatCount rep) (rawFinish .mt64) s, generated_draws .mt64 _ _ s⟩

/-- One repetition is one call of the step. -/
theorem genMt64_single {s : State} {word : U64} {v : Mt64Engine} (h : s.mt64.idx.toNat ≤ 312)
    (hstep : stepEngine .mt64 s.mt64 = (word, v)) :
    ∃ t, exec (.genMt64 .single) s = .next t ∧ t.mt64 = v ∧ Completed [word] .mt64 s t ∧ t.draws = s.draws := by
  obtain ⟨t, ht, hv, hcompleted, hdraws⟩ := genMt64_of_le h .single
  rw [show repeatCount .single = 1 from rfl, runN_succ, hstep] at hv hcompleted
  exact ⟨t, ht, hv, hcompleted, hdraws⟩

end Sys2Proof.Laws

namespace Sys2Proof.Proofs

open Sys2Proof.Machine Sys2Proof.Safety Sys2Proof.Laws

/-- Settles O24: both commands compare the key's length with the limit first. -/
theorem overlongKeysAreRefused : Obligations.OverlongKeysAreRefused :=
  fun _ s h => ⟨execSeedaMt64_of_overlong h s, execSeedaXs1024s_of_overlong h s⟩

/-- Settles O22: the command puts the array of scalar seeding, whose words follow one another. -/
theorem seedMt64FollowsTheRecurrence : Obligations.SeedMt64FollowsTheRecurrence := by
  intro a s
  obtain ⟨t, ht, hput, hleft⟩ := next_of_complete_putEngine (i := .seedMt64 a) (s := s) (e := .mt64) rfl
  have hte : t.mt64 = ⟨mtInitGenrand params a, 312#9⟩ := hput
  refine ⟨t, ht, ?_, ?_, fun i h1 h2 => ?_, ?_, hleft⟩
  · rw [hte, mtInitGenrand_length]
  · rw [hte]
    rfl
  · rw [hte]
    exact mtInitGenrand_getD a h1 h2
  · rw [hte]

/-- Settles O23: the array the command puts is the one the two passes over the key end in, but for word 0. -/
theorem seedaMt64Completes : Obligations.SeedaMt64Completes := by
  refine fun key s => ⟨?_, fun hne hmax => ?_⟩
  · rintro rfl
    exact ⟨_, execSeedaMt64_nil s, takeFault_faulted .emptyKey s⟩
  · obtain ⟨t, ht, hput, hleft⟩ :=
      next_of_complete_putEngine (i := .seedaMt64 key) (e := .mt64) (execSeedaMt64_of_ne_nil hne hmax s)
    have hte : t.mt64 = ⟨mtInitByArray params key, 312#9⟩ := hput
    refine ⟨t, _, _, ht, mixesKey_fill hne, ?_, ?_, fun x h1 _ => ?_, ?_, hleft⟩
    · rw [hte, mtInitByArray_length]
    · rw [hte, mtInitByArray_getD_zero hne]
    · rw [hte, mtInitByArray_getD_of_pos key h1]
    · rw [hte]

/-- Settles O31: one call of the step, below 312 and at it. -/
theorem genMt64OneWord : Obligations.GenMt64OneWord := by
  refine fun s => ⟨fun h => ?_, fun h => ?_⟩
  · obtain ⟨t, ht, hv, hleft⟩ := genMt64_single (by omega) (stepEngine_mt64_of_le h)
    refine ⟨t, ht, by rw [hv], ?_, hleft⟩
    rw [hv, BitVec.toNat_add_of_lt (show s.mt64.idx.toNat + 1 < 2 ^ 9 by omega)]
    rfl
  · obtain ⟨t, ht, hv, hleft⟩ := genMt64_single h.le (stepEngine_mt64_of_eq h)
    exact ⟨t, ht, by rw [hv], by rw [hv], hleft⟩

/-- Settles O32: the array the twist reads at a place is new up to there and old from there on. -/
theorem twistRegeneratesEveryWord : Obligations.TwistRegeneratesEveryWord := by
  refine fun mt hmt => ⟨(mtTwist_length params mt).trans hmt, fun i hi => ?_⟩
  have hself : (twistTo params mt i).getD i 0#64 = mt.getD i 0#64 := twistTo_getD_of_le params mt le_rfl
  rw [← twistTo_getD_next mt hi, ← twistTo_getD_ahead mt hi, ← hself]
  exact mtTwist_getD hmt hi

/-- Settles O42: the calls of the step go along `mtBatch`, from no generation on. -/
theorem batchBoundary : Obligations.BatchBoundary := by
  intro s n hidx hn
  have hstart : s.mt64 = mtBatch s.mt64.mt 0 := congrArg (Mt64Engine.mk s.mt64.mt) hidx
  have hrun := runN_of_sequence (stepEngine_mtBatch s.mt64.mt) n.toNat 0
  rw [← hstart, Nat.zero_add] at hrun
  obtain ⟨t, ht, hv, hcompleted, -⟩ := genMt64_of_le (by rw [hidx]; decide) (.bulk n)
  rw [show repeatCount (.bulk n) = n.toNat from rfl, hrun] at hv hcompleted
  refine ⟨t, (List.range' 0 n.toNat).map (mtBatchWord s.mt64.mt), ht, hcompleted, by simp, fun j hj => ?_,
    by rw [hv, mtBatch], ?_⟩
  · simp [hj, mtBatchWord]
  · rw [hv, mtBatch_idx]
    omega

end Sys2Proof.Proofs
end

section
/-! SUPPORT. The real mapper (43_real.md R250 to R258): `fl` keeps the order and leaves a binary64 as it is, which bounds
the unit reals and the range map; what GENR, GENRC and GENRR make of each raw output; and the statements about them. -/

namespace Sys2Proof.Machine

open Sys2Proof.Safety

/-! ### `fl` in order -/

theorem Brackets.mono {m m' e l l' : Nat} (h : Brackets m e l) (h' : Brackets m' e l') (hm : m ≤ m') : l ≤ l' := by
  by_contra hlt
  have hmag : magOfBits (l' + 1) * 2 ^ e ≤ magOfBits l * 2 ^ e := (magOfBits_mul_strictMono e).monotone (by omega)
  obtain ⟨hl, -⟩ := h
  obtain ⟨-, hu⟩ := h'
  omega

/-- `fl` keeps the order: of two values between the same two magnitudes the larger is not rounded down alone. -/
theorem roundMag_mono {m m' k : Nat} (hk : 1074 ≤ k) (h : m ≤ m') : roundMag m k ≤ roundMag m' k := by
  obtain ⟨e, rfl⟩ := Nat.exists_eq_add_of_le' hk
  obtain ⟨l, hl, hr⟩ := roundMag_brackets m e
  obtain ⟨l', hl', hr'⟩ := roundMag_brackets m' e
  rw [hr, hr']
  refine min_le_min_right _ ?_
  unfold nearerBits
  obtain hlt | rfl := Nat.lt_or_eq_of_le (hl.mono hl' h)
  · split <;> split <;> omega
  · split <;> split <;> omega

/-- `fl` leaves a binary64 as it is. -/
theorem roundMag_magOfBits (e : Nat) {b : Nat} (hb : b ≤ f64InfBits) :
    roundMag (magOfBits b * 2 ^ e) (e + 1074) = b := by
  obtain ⟨l, hl, hr⟩ := roundMag_brackets (magOfBits b * 2 ^ e) e
  have hlt : magOfBits b * 2 ^ e < magOfBits (b + 1) * 2 ^ e := magOfBits_mul_strictMono e (Nat.lt_succ_self b)
  have hbr : Brackets (magOfBits b * 2 ^ e) e b := ⟨le_rfl, hlt⟩
  obtain rfl : l = b := (hl.mono hbr le_rfl).antisymm (hbr.mono hl le_rfl)
  rw [hr, nearerBits, if_neg (by rw [Nat.add_mul]; omega), min_eq_left hb]

/-- A value that is a binary64, in units of 2^-1074. -/
theorem roundMag_magOfBits_units {b : Nat} (hb : b ≤ f64InfBits) : roundMag (magOfBits b) 1074 = b := by
  simpa using roundMag_magOfBits 0 hb

/-- A value not above a binary64 is not rounded above it. -/
theorem roundMag_le_of_le {m e b : Nat} (hb : b ≤ f64InfBits) (h : m ≤ magOfBits b * 2 ^ e) :
    roundMag m (e + 1074) ≤ b :=
  (roundMag_mono (Nat.le_add_left _ _) h).trans_eq (roundMag_magOfBits e hb)

/-- A value below the midpoint above a binary64 is not rounded above that binary64. -/
theorem roundMag_le_of_lt_midpoint {m e b : Nat} (h : 2 * m < (magOfBits b + magOfBits (b + 1)) * 2 ^ e) :
    roundMag m (e + 1074) ≤ b := by
  obtain ⟨l, ⟨hl, -⟩, hr⟩ := roundMag_brackets m e
  have hmono := magOfBits_mul_strictMono e
  have hle : magOfBits b * 2 ^ e ≤ magOfBits (b + 1) * 2 ^ e := hmono.monotone (Nat.le_succ b)
  rw [hr]
  refine (Nat.min_le_left _ _).trans ?_
  unfold nearerBits
  rw [Nat.add_mul] at h ⊢
  obtain hlb | rfl | hbl := Nat.lt_trichotomy l b
  · split <;> omega
  · rw [if_neg (by omega)]
  · have hup : magOfBits (b + 1) * 2 ^ e ≤ magOfBits l * 2 ^ e := hmono.monotone hbl
    omega

/-- Up to 2^53 units of 2^-1074 the bits are the number of units. -/
theorem magOfBits_of_le {n : Nat} (hn : n ≤ 2 ^ 53) : magOfBits n = n := by
  simpa using magOfBits_at_place (x := 0) hn (.inl rfl)

theorem roundMag_of_le {n : Nat} (hn : n ≤ 2 ^ 53) : roundMag n 1074 = n := by
  have hround := roundMag_magOfBits_units (hn.trans (by decide))
  rwa [magOfBits_of_le hn] at hround

/-- A number of at most 53 bits, scaled within the exponent range, is a finite binary64. -/
theorem exists_magOfBits_eq {n j : Nat} (hn : n ≤ 2 ^ 53) (hj : j ≤ 1074) :
    ∃ b, b < f64InfBits ∧ magOfBits b = n * 2 ^ j := by
  induction j generalizing n with
  | zero => exact ⟨n, Nat.lt_of_le_of_lt hn (by decide), by rw [magOfBits_of_le hn, Nat.pow_zero, Nat.mul_one]⟩
  | succ j ih =>
    obtain hlt | hle := Nat.lt_or_ge n (2 ^ 52)
    · obtain ⟨b, hb, hmag⟩ := ih (n := n * 2) (by omega) (by omega)
      exact ⟨b, hb, by rw [hmag, Nat.mul_assoc, ← Nat.pow_succ']⟩
    · refine ⟨(j + 1) * 2 ^ 52 + n, ?_, magOfBits_at_place hn (.inr hle)⟩
      unfold f64InfBits
      omega

/-! ### Magnitude bits of a binary64 -/

theorem f64Exp_lt_iff {u : U64} : f64Exp u < 2047 ↔ u.toNat % 2 ^ 63 < f64InfBits := by
  rw [f64Exp_eq, f64InfBits]
  omega

/-- A binary64 is finite where its magnitude is below the one the infinity's bits would have. -/
theorem f64Exp_lt_iff_f64Mag_lt {u : U64} : f64Exp u < 2047 ↔ f64Mag u < magOfBits f64InfBits := by
  rw [f64Exp_lt_iff, f64Mag_eq, magOfBits_strictMono.lt_iff_lt]

theorem f64Sign_eq (u : U64) : f64Sign u = decide (2 ^ 63 ≤ u.toNat) :=
  (BitVec.msb_eq_getLsbD_last u).symm.trans (BitVec.msb_eq_decide u)

theorem eq_f64Pack (u : U64) : u = f64Pack (f64Sign u) (u.toNat % 2 ^ 63) := by
  refine BitVec.eq_of_toNat_eq ?_
  rw [toNat_f64Pack _ (Nat.mod_lt _ (Nat.two_pow_pos 63)), f64Sign_eq]
  by_cases h : 2 ^ 63 ≤ u.toNat
  · rw [decide_eq_true h, Bool.toNat_true]
    omega
  · rw [decide_eq_false h, Bool.toNat_false]
    omega

theorem natAbs_f64Int (u : U64) : (f64Int u).natAbs = f64Mag u := by
  unfold f64Int
  split <;> simp

theorem roundMag_lt_two_pow (m k : Nat) : roundMag m k < 2 ^ 63 :=
  Nat.lt_of_le_of_lt (Nat.min_le_right _ _) (by decide)

theorem f64Mag_f64Round (neg : Bool) (m k : Nat) : f64Mag (f64Round neg m k) = magOfBits (roundMag m k) :=
  f64Mag_f64Pack neg (roundMag_lt_two_pow m k)

@[simp] theorem f64Sign_f64Round (neg : Bool) (m k : Nat) : f64Sign (f64Round neg m k) = neg := f64Sign_f64Pack neg _

theorem f64Exp_f64Round {neg : Bool} {m k : Nat} : f64Exp (f64Round neg m k) < 2047 ↔ roundMag m k < f64InfBits := by
  rw [f64Exp_lt_iff, f64Round, bits_f64Pack neg (roundMag_lt_two_pow m k)]

theorem toNat_f64Round_false (m k : Nat) : (f64Round false m k).toNat = roundMag m k := by
  rw [f64Round, toNat_f64Pack _ (roundMag_lt_two_pow m k)]
  simp

/-! ### Negation -/

theorem bits_f64Neg (u : U64) : (f64Neg u).toNat % 2 ^ 63 = u.toNat % 2 ^ 63 := by
  rw [← BitVec.toNat_setWidth, ← BitVec.toNat_setWidth, f64Neg, BitVec.setWidth_xor]
  exact congrArg BitVec.toNat (BitVec.xor_zero)

@[simp] theorem f64Sign_f64Neg (u : U64) : f64Sign (f64Neg u) = !f64Sign u := by
  rw [f64Sign, f64Neg, BitVec.getLsbD_xor, f64Sign]
  exact Bool.xor_true _

@[simp] theorem f64Exp_f64Neg (u : U64) : f64Exp (f64Neg u) = f64Exp u := by
  rw [f64Exp_eq, f64Exp_eq, bits_f64Neg]

@[simp] theorem f64Frac_f64Neg (u : U64) : f64Frac (f64Neg u) = f64Frac u := by
  rw [f64Frac_eq, f64Frac_eq, bits_f64Neg]

@[simp] theorem f64IsNaN_f64Neg (u : U64) : f64IsNaN (f64Neg u) = f64IsNaN u := by simp [f64IsNaN]

@[simp] theorem f64Int_f64Neg (u : U64) : f64Int (f64Neg u) = -f64Int u := by
  rw [f64Int, f64Int, f64Sign_f64Neg, f64Mag_eq, bits_f64Neg, ← f64Mag_eq]
  cases f64Sign u <;> simp

theorem f64Sub_of_finite {a b : U64} (ha : f64Exp a < 2047) (hb : f64Exp b < 2047) :
    f64Sub a b = some (f64RoundSum (f64Sign a && !f64Sign b) (f64Int a - f64Int b)) := by
  rw [f64Sub, f64Add_of_finite ha (by simpa using hb), f64Sign_f64Neg, f64Int_f64Neg, Int.sub_eq_add_neg]

/-! ### Signed values -/

/-- `fl` of the signed number of units `n`, as a number of units. -/
def flInt (n : Int) : Int := n.sign * magOfBits (roundMag n.natAbs 1074)

@[simp] theorem magOfBits_zero : magOfBits 0 = 0 := by decide

@[simp] theorem roundMag_zero (e : Nat) : roundMag 0 (e + 1074) = 0 := by
  simpa using roundMag_magOfBits e (Nat.zero_le f64InfBits)

theorem f64Int_f64Round (n : Int) :
    f64Int (f64Round (decide (n < 0)) n.natAbs 1074) = flInt n := by
  rw [f64Int, f64Sign_f64Round, f64Mag_f64Round, flInt]
  obtain hn | rfl | hn := Int.lt_trichotomy n 0
  · simp [hn, Int.sign_eq_neg_one_of_neg hn]
  · simp [roundMag_zero 0]
  · simp [Int.sign_eq_one_of_pos hn, hn.le]

theorem f64Int_f64RoundSum (bothNeg : Bool) (n : Int) : f64Int (f64RoundSum bothNeg n) = flInt n := by
  unfold f64RoundSum
  split
  · subst n
    cases bothNeg <;> decide
  · exact f64Int_f64Round n

theorem f64Mag_f64RoundSum (bothNeg : Bool) (n : Int) :
    f64Mag (f64RoundSum bothNeg n) = magOfBits (roundMag n.natAbs 1074) := by
  unfold f64RoundSum
  split
  · subst n
    cases bothNeg <;> decide
  · exact f64Mag_f64Round _ _ _

theorem flInt_neg (n : Int) : flInt (-n) = -flInt n := by simp [flInt]

theorem flInt_of_nonneg {n : Int} (h : 0 ≤ n) : flInt n = magOfBits (roundMag n.toNat 1074) := by
  obtain ⟨m, rfl⟩ := Int.eq_ofNat_of_zero_le h
  obtain rfl | hm := Nat.eq_zero_or_pos m
  · decide
  · simp [flInt, Int.sign_eq_one_of_pos (Int.natCast_pos.2 hm)]

theorem flInt_mono : Monotone flInt := by
  refine monotone_of_odd_of_monotoneOn_nonneg flInt_neg fun a ha b hb hab => ?_
  rw [flInt_of_nonneg ha, flInt_of_nonneg hb, Int.ofNat_le]
  exact magOfBits_strictMono.monotone (roundMag_mono le_rfl (Int.toNat_le_toNat hab))

theorem roundMag_natAbs_f64Int {u : U64} (hu : f64Exp u < 2047) :
    roundMag (f64Int u).natAbs 1074 = u.toNat % 2 ^ 63 := by
  rw [natAbs_f64Int, f64Mag_eq, roundMag_magOfBits_units (f64Exp_lt_iff.1 hu).le]

theorem flInt_f64Int {u : U64} (hu : f64Exp u < 2047) : flInt (f64Int u) = f64Int u := by
  rw [flInt, roundMag_natAbs_f64Int hu, ← f64Mag_eq, ← natAbs_f64Int, Int.sign_mul_natAbs]

/-! ### The range map (R257) -/

/-- A factor of at most 1 − 2^-53, counted in units of 2^-53 over 2^e, makes a binary64 whose last place is above
2^-1074 smaller, after rounding too: the product is below the midpoint to the binary64 below, or, from a power of two,
at most that binary64. -/
theorem roundMag_scaled_lt {b f e : Nat} (hb : 2 ^ 53 ≤ b) (hb' : b ≤ f64InfBits) (hf : f ≤ (2 ^ 53 - 1) * 2 ^ e) :
    roundMag (magOfBits b * f) (53 + e + 1074) < b := by
  obtain ⟨x, p, hlo, hhi, rfl⟩ : ∃ x p, 2 ^ 52 ≤ p + 1 ∧ p + 1 < 2 ^ 53 ∧ b = (x + 1) * 2 ^ 52 + p + 1 :=
    ⟨b / 2 ^ 52 - 2, b - (b / 2 ^ 52 - 1) * 2 ^ 52 - 1, by omega, by omega, by omega⟩
  have hmag : magOfBits ((x + 1) * 2 ^ 52 + p + 1) = (p + 1) * 2 ^ (x + 1) := by
    rw [Nat.add_assoc, magOfBits_at_place hhi.le (.inr hlo)]
  have hprod : magOfBits ((x + 1) * 2 ^ 52 + p + 1) * f ≤ (p + 1) * (2 ^ 53 - 1) * (2 ^ (x + 1) * 2 ^ e) := by
    rw [hmag, Nat.mul_mul_mul_comm (p + 1) (2 ^ 53 - 1)]
    exact Nat.mul_le_mul_left _ hf
  refine Nat.lt_succ_of_le ?_
  obtain hpow | hlt := Nat.eq_or_lt_of_le hlo
  · have hpred : magOfBits ((x + 1) * 2 ^ 52 + p) = (2 ^ 53 - 1) * 2 ^ x := by
      rw [show (x + 1) * 2 ^ 52 + p = x * 2 ^ 52 + (2 ^ 53 - 1) by omega]
      exact magOfBits_at_place (by decide) (.inr (by decide))
    refine roundMag_le_of_le (Nat.le_of_succ_le hb') ?_
    calc _ ≤ (p + 1) * (2 ^ 53 - 1) * (2 ^ (x + 1) * 2 ^ e) := hprod
      _ = _ := by rw [hpred, ← hpow, Nat.pow_add 2 53]; ring
  · have hpred : magOfBits ((x + 1) * 2 ^ 52 + p) = p * 2 ^ (x + 1) :=
      magOfBits_at_place (by omega) (.inr (by omega))
    refine roundMag_le_of_lt_midpoint ?_
    calc _ ≤ 2 * ((p + 1) * (2 ^ 53 - 1) * (2 ^ (x + 1) * 2 ^ e)) := Nat.mul_le_mul_left 2 hprod
      _ = (2 * (p + 1) * (2 ^ 53 - 1)) * (2 ^ (x + 1) * 2 ^ e) := by ring
      _ < ((p + (p + 1)) * 2 ^ 53) * (2 ^ (x + 1) * 2 ^ e) := Nat.mul_lt_mul_of_pos_right (by omega) (by positivity)
      _ = _ := by rw [hpred, hmag, Nat.pow_add 2 53]; ring

/-- The product of a rounded difference of `n` units and a factor of at most 1 − 2^-53 never exceeds the exact
difference: where the difference was rounded up, the product is rounded to the binary64 below at most. -/
theorem magOfBits_scaled_le {n f : Nat} (hn : roundMag n 1074 < f64InfBits) (hf : f ≤ (2 ^ 53 - 1) * 2 ^ 1021) :
    magOfBits (roundMag (magOfBits (roundMag n 1074) * f) 2148) ≤ n := by
  obtain hsmall | hlarge := Nat.lt_or_ge n (2 ^ 53)
  · have hle : roundMag (n * f) (1074 + 1074) ≤ n := by
      refine roundMag_le_of_le (hsmall.le.trans (by decide)) ?_
      rw [magOfBits_of_le hsmall.le]
      exact Nat.mul_le_mul_left n (hf.trans (by decide +kernel))
    rw [roundMag_of_le hsmall.le, magOfBits_of_le hsmall.le]
    exact (magOfBits_strictMono.monotone hle).trans_eq (magOfBits_of_le hsmall.le)
  · have hbits : 2 ^ 53 ≤ roundMag n 1074 :=
      calc 2 ^ 53 = roundMag (2 ^ 53) 1074 := (roundMag_of_le le_rfl).symm
        _ ≤ roundMag n 1074 := roundMag_mono le_rfl hlarge
    by_contra hlt
    have hle : roundMag n (0 + 1074) ≤ roundMag (magOfBits (roundMag n 1074) * f) (1074 + 1074) :=
      roundMag_le_of_le (Nat.min_le_right _ _) (by rw [Nat.pow_zero, Nat.mul_one]; exact (Nat.lt_of_not_ge hlt).le)
    exact Nat.not_lt.2 hle (roundMag_scaled_lt (e := 1021) hbits hn.le hf)

theorem rangeMap_some (lo hi r : U64) :
    rangeMap lo hi (some r) = (f64Sub hi lo).bind fun d => (f64Mul d r).bind fun p => f64Add lo p := rfl

theorem rangeMap_of_eq {lo hi r d p : U64} (hd : f64Sub hi lo = some d) (hp : f64Mul d r = some p) :
    rangeMap lo hi (some r) = f64Add lo p := by
  rw [rangeMap_some, hd, Option.bind_some, hp, Option.bind_some]

/-- Multiplying a rounded difference by a factor from 0 to 1 − 2^-53 gives a finite binary64 between 0 and the exact
difference. -/
theorem f64Mul_difference_between {bothNeg : Bool} {n : Int} {r : U64} (hd : f64Exp (f64RoundSum bothNeg n) < 2047)
    (hr : FiniteNonneg r) (hle : r.toNat ≤ 0x3FEFFFFFFFFFFFFF) :
    ∃ p, f64Mul (f64RoundSum bothNeg n) r = some p ∧ f64Exp p < 2047 ∧
      min 0 n ≤ f64Int p ∧ f64Int p ≤ max 0 n := by
  obtain ⟨hsign, hfin⟩ := hr
  have hf : f64Mag r ≤ (2 ^ 53 - 1) * 2 ^ 1021 := by
    rw [f64Mag_eq, Nat.mod_eq_of_lt (by omega)]
    exact (magOfBits_strictMono.monotone hle).trans (by decide +kernel)
  have hbits : roundMag n.natAbs 1074 < f64InfBits := by
    rwa [f64Exp_lt_iff_f64Mag_lt, f64Mag_f64RoundSum, magOfBits_strictMono.lt_iff_lt] at hd
  refine ⟨_, f64Mul_of_finite hd hfin, ?_, ?_⟩
  · rw [f64Exp_f64Round, f64Mag_f64RoundSum]
    refine Nat.lt_of_le_of_lt (roundMag_le_of_le (e := 1074) hbits.le (Nat.mul_le_mul_left _ ?_)) hbits
    exact hf.trans (by decide +kernel)
  · have hscaled := magOfBits_scaled_le hbits hf
    rw [f64Int, f64Sign_f64Round, f64Mag_f64Round, hsign, Bool.bne_false, f64Mag_f64RoundSum]
    generalize magOfBits (roundMag (magOfBits (roundMag n.natAbs 1074) * f64Mag r) 2148) = q at hscaled ⊢
    obtain rfl | hne := eq_or_ne n 0
    · split <;> omega
    · rw [f64RoundSum_of_ne_zero _ hne, f64Sign_f64Round]
      simp only [decide_eq_true_iff]
      split <;> omega

/-- A sum of two finite binary64 values that lies between two finite binary64 values is still there after rounding. -/
theorem f64Add_between {a p x y : U64} (ha : f64Exp a < 2047) (hp : f64Exp p < 2047) (hx : f64Exp x < 2047)
    (hy : f64Exp y < 2047) (hlo : f64Int x ≤ f64Int a + f64Int p) (hhi : f64Int a + f64Int p ≤ f64Int y) :
    ∃ v, f64Add a p = some v ∧ f64Exp v < 2047 ∧ f64Int x ≤ f64Int v ∧ f64Int v ≤ f64Int y := by
  have hlo' := flInt_mono hlo
  have hhi' := flInt_mono hhi
  rw [flInt_f64Int hx] at hlo'
  rw [flInt_f64Int hy] at hhi'
  refine ⟨_, f64Add_of_finite ha hp, ?_, ?_⟩
  · rw [f64Exp_lt_iff_f64Mag_lt, ← natAbs_f64Int] at hx hy ⊢
    rw [f64Int_f64RoundSum]
    omega
  · rw [f64Int_f64RoundSum]
    exact ⟨hlo', hhi'⟩

theorem rangeMap_between {lo hi r d : U64} (hlo : f64Exp lo < 2047) (hhi : f64Exp hi < 2047)
    (hsub : f64Sub hi lo = some d) (hd : f64Exp d < 2047) (hr : FiniteNonneg r) (hle : r.toNat ≤ 0x3FEFFFFFFFFFFFFF) :
    ∃ v, rangeMap lo hi (some r) = some v ∧ f64Exp v < 2047 ∧
      min (f64Int lo) (f64Int hi) ≤ f64Int v ∧ f64Int v ≤ max (f64Int lo) (f64Int hi) := by
  obtain rfl := Option.some.inj (hsub.symm.trans (f64Sub_of_finite hhi hlo))
  obtain ⟨p, hp, hpfin, hmin, hmax⟩ := f64Mul_difference_between hd hr hle
  rw [rangeMap_of_eq hsub hp]
  obtain h | h := le_total (f64Int lo) (f64Int hi)
  · rw [min_eq_left h, max_eq_right h]
    exact f64Add_between hlo hpfin hlo hhi (by omega) (by omega)
  · rw [min_eq_right h, max_eq_left h]
    exact f64Add_between hlo hpfin hhi hlo (by omega) (by omega)

/-! ### Zeros -/

theorem eq_zero_of_f64Int_eq_zero {u : U64} (h : f64Int u = 0) : u = f64Pack (f64Sign u) 0 := by
  have hmag : magOfBits (u.toNat % 2 ^ 63) = magOfBits 0 := by
    rw [← f64Mag_eq, ← natAbs_f64Int, h, magOfBits_zero, Int.natAbs_zero]
  have hu := eq_f64Pack u
  rwa [magOfBits_strictMono.injective hmag] at hu

@[simp] theorem f64Int_f64Pack_zero (neg : Bool) : f64Int (f64Pack neg 0) = 0 := by cases neg <;> decide

/-- A finite binary64 but a zero is its value's rounding. -/
theorem f64RoundSum_f64Int {u : U64} (hu : f64Exp u < 2047) (hne : f64Int u ≠ 0) (bothNeg : Bool) :
    f64RoundSum bothNeg (f64Int u) = u := by
  have hsign : decide (f64Int u < 0) = f64Sign u := by
    unfold f64Int at hne ⊢
    cases hneg : f64Sign u with
    | false => simp
    | true => simpa [hneg, Nat.pos_iff_ne_zero] using hne
  rw [f64RoundSum_of_ne_zero _ hne, f64Round, roundMag_natAbs_f64Int hu, hsign, ← eq_f64Pack]

/-- Adding a zero changes −0 alone, and only where the zero is +0. -/
theorem f64Add_f64Pack_zero {a : U64} (ha : f64Exp a < 2047) (neg : Bool) :
    f64Add a (f64Pack neg 0) = some (if a = 0x8000000000000000#64 ∧ neg = false then 0#64 else a) := by
  rw [f64Add_of_finite ha (by cases neg <;> decide), f64Int_f64Pack_zero, Int.add_zero, f64Sign_f64Pack,
    Option.some.injEq]
  by_cases h : f64Int a = 0
  · rw [h, eq_zero_of_f64Int_eq_zero h, f64Sign_f64Pack]
    generalize f64Sign a = s
    cases s <;> cases neg <;> decide
  · rw [f64RoundSum_f64Int ha h, if_neg]
    rintro ⟨rfl, -⟩
    exact h (by decide)

/-- A zero factor gives a zero. -/
theorem f64Mul_zero_right {d : U64} (hd : f64Exp d < 2047) : f64Mul d 0#64 = some (f64Pack (f64Sign d) 0) := by
  rw [f64Mul_of_finite hd (by decide), show f64Mag 0#64 = 0 by decide, Nat.mul_zero, f64Round, roundMag_zero 1074,
    show f64Sign 0#64 = false by decide, Bool.bne_false]

theorem f64Mul_zero_left {r : U64} (hr : FiniteNonneg r) : f64Mul 0#64 r = some (f64Pack false 0) := by
  obtain ⟨hsign, hfin⟩ := hr
  rw [f64Mul_of_finite (by decide) hfin, show f64Mag 0#64 = 0 by decide, Nat.zero_mul, f64Round, roundMag_zero 1074,
    hsign, show f64Sign 0#64 = false by decide, Bool.bne_false]

theorem f64Sub_self {a : U64} (ha : f64Exp a < 2047) : f64Sub a a = some 0#64 := by
  rw [f64Sub_of_finite ha ha, Int.sub_self, Bool.and_not_self, f64RoundSum_zero]
  rfl

/-! ### Infinities and NaNs -/

theorem f64Add_of_isNaN {a b : U64} (h : f64IsNaN a = true ∨ f64IsNaN b = true) : f64Add a b = none := by
  rw [f64Add, if_pos (by simpa using h)]

theorem f64Sub_of_isNaN {a b : U64} (h : f64IsNaN a = true ∨ f64IsNaN b = true) : f64Sub a b = none :=
  f64Add_of_isNaN (by rwa [f64IsNaN_f64Neg])

theorem f64Mul_inf_zero : f64Mul 0x7FF0000000000000#64 0#64 = none := by decide

theorem f64Add_inf {a : U64} (ha : f64Exp a < 2047) :
    f64Add a 0x7FF0000000000000#64 = some 0x7FF0000000000000#64 := by
  have hnan : f64IsNaN 0x7FF0000000000000#64 = false := by decide
  have hinf : f64IsInf 0x7FF0000000000000#64 = true := by decide
  simp [f64Add, f64IsNaN_of_finite ha, f64IsInf_of_finite ha, hnan, hinf]

theorem f64Mul_inf_pos {r : U64} (hr : FiniteNonneg r) (hne : r ≠ 0#64) :
    f64Mul 0x7FF0000000000000#64 r = some 0x7FF0000000000000#64 := by
  obtain ⟨hsign, hfin⟩ := hr
  have hmag : f64Mag r ≠ 0 := fun h => hne <| by
    have hz := eq_zero_of_f64Int_eq_zero (u := r) (by rw [← Int.natAbs_eq_zero, natAbs_f64Int, h])
    rw [hz, hsign]
    decide
  have hnan : f64IsNaN 0x7FF0000000000000#64 = false := by decide
  have hinf : f64IsInf 0x7FF0000000000000#64 = true := by decide
  have hpos : f64Sign 0x7FF0000000000000#64 = false := by decide
  simp [f64Mul, f64IsNaN_of_finite hfin, f64IsInf_of_finite hfin, hnan, hinf, hpos, hsign, hmag]
  decide

theorem quietNaN_isQuiet (f : BitVec 52) : QuietNaN (quietNaN f) := by
  refine ⟨?_, ?_⟩
  · have hpayload := (f.extractLsb' 0 51).isLt
    rw [f64Exp_eq, quietNaN, toNat_append_add, toNat_append_add, toNat_append_add,
      show (0x7FF#11).toNat = 2047 from rfl, show (1#1).toNat = 1 from rfl]
    omega
  · rw [quietNaN, BitVec.getLsbD_append, BitVec.getLsbD_append]
    rfl

/-! ### Unit reals (R251 to R256) -/

/-- `fl` of the number `n` times the constant `c`, both not negative. -/
def unitReal (c : U64) (n : Nat) : U64 := f64Round false (n * f64Mag c * 2 ^ 1074) 2148

theorem f64Mul_f64OfNat {n : Nat} {c : U64} (hn : n < 2 ^ 53) (hsign : f64Sign c = false) (hfin : f64Exp c < 2047) :
    f64Mul (f64OfNat n) c = some (unitReal c n) := by
  obtain ⟨b, hb, hmag⟩ := exists_magOfBits_eq hn.le le_rfl
  have hbits : roundMag (n * 2 ^ 1074) 1074 = b := hmag ▸ roundMag_magOfBits_units hb.le
  rw [f64OfNat, f64Mul_of_finite (f64Exp_f64Round.2 (hbits.trans_lt hb)) hfin, f64Sign_f64Round, f64Mag_f64Round, hbits,
    hmag, hsign, unitReal, Nat.mul_right_comm]
  rfl

theorem toNat_unitReal (c : U64) (n : Nat) : (unitReal c n).toNat = roundMag (n * f64Mag c * 2 ^ 1074) 2148 :=
  toNat_f64Round_false _ _

theorem unitReal_mono (c : U64) {n n' : Nat} (h : n ≤ n') : (unitReal c n).toNat ≤ (unitReal c n').toNat := by
  rw [toNat_unitReal, toNat_unitReal]
  exact roundMag_mono (by decide) (Nat.mul_le_mul_right _ (Nat.mul_le_mul_right _ h))

/-- The product with a power of two is exact. -/
theorem unitReal_exact {c : U64} {i j n : Nat} (hc : f64Mag c = 2 ^ j) (hij : j + i = 1074) (hn : n ≤ 2 ^ 53) :
    FiniteNonneg (unitReal c n) ∧ f64Mag (unitReal c n) * 2 ^ i = n * 2 ^ 1074 := by
  obtain ⟨b, hb, hmag⟩ := exists_magOfBits_eq (j := j) hn (by omega)
  have hbits : roundMag (n * f64Mag c * 2 ^ 1074) 2148 = b := by
    rw [hc, ← hmag]
    exact roundMag_magOfBits 1074 hb.le
  rw [FiniteNonneg, unitReal, f64Sign_f64Round, f64Exp_f64Round, f64Mag_f64Round, hbits]
  exact ⟨⟨rfl, hb⟩, by rw [hmag, ← hij, Nat.pow_add, Nat.mul_assoc]⟩

/-- `NearestEven` is about the quotient alone. -/
theorem nearestEven_mul_two_pow {m k b : Nat} (j : Nat) :
    NearestEven (m * 2 ^ j) (k + j) b ↔ NearestEven m k b := by
  simp only [NearestEven, Nat.mul_right_comm m (2 ^ j), dist_mul_two_pow, Nat.mul_le_mul_right_iff (Nat.two_pow_pos j),
    Nat.mul_left_inj (Nat.two_pow_pos j).ne']

theorem unitReal_nearestEven {c : U64} {n q j k : Nat} (hc : f64Mag c = q * 2 ^ j) (hk : k + (j + 1074) = 2148)
    (h : (unitReal c n).toNat < f64InfBits) : NearestEven (n * q) k (unitReal c n).toNat := by
  have hscale : n * f64Mag c * 2 ^ 1074 = n * q * 2 ^ (j + 1074) := by
    rw [hc, Nat.pow_add, ← Nat.mul_assoc, Nat.mul_assoc (n * q)]
  rw [toNat_unitReal, hscale, ← hk] at h ⊢
  exact (nearestEven_mul_two_pow _).1 (roundMag_nearestEven (by omega) h)

/-! The constants of R251, R252, R254 and R255: the open ones are powers of two. -/

theorem f64Mag_r32KOpen : f64Mag params.r32KOpen = 2 ^ 1042 := by decide +kernel

theorem f64Mag_r53KOpen : f64Mag params.r53KOpen = 2 ^ 1021 := by decide +kernel

theorem f64Mag_r32KClosed : f64Mag params.r32KClosed = (2 ^ 32 + 1) * 2 ^ 1010 := by decide +kernel

theorem f64Mag_r53KClosed : f64Mag params.r53KClosed = (2 ^ 52 + 1) * 2 ^ 969 := by decide +kernel

theorem unitReal_r32KOpen_le {n : Nat} (hn : n < 2 ^ 32) : (unitReal params.r32KOpen n).toNat ≤ 0x3FEFFFFFFFE00000 :=
  (unitReal_mono _ (Nat.le_sub_one_of_lt hn)).trans (by decide +kernel)

theorem unitReal_r53KOpen_le {n : Nat} (hn : n < 2 ^ 53) : (unitReal params.r53KOpen n).toNat ≤ 0x3FEFFFFFFFFFFFFF :=
  (unitReal_mono _ (Nat.le_sub_one_of_lt hn)).trans (by decide +kernel)

theorem unitReal_r32KClosed_le {n : Nat} (hn : n < 2 ^ 32) :
    (unitReal params.r32KClosed n).toNat ≤ 0x3FF0000000000000 :=
  (unitReal_mono _ (Nat.le_sub_one_of_lt hn)).trans (by decide +kernel)

theorem unitReal_r53KClosed_le {n : Nat} (hn : n < 2 ^ 53) :
    (unitReal params.r53KClosed n).toNat ≤ 0x3FF0000000000000 :=
  (unitReal_mono _ (Nat.le_sub_one_of_lt hn)).trans (by decide +kernel)

/-! The numbers of R253. -/

theorem splitOf_lt {n : Nat} (h : n < 2 ^ 64) : splitOf n < 2 ^ 53 := by
  unfold splitOf
  omega

theorem chunks_eq {w : Nat} (v : BitVec w) : chunks params v = splitOf (topWord v).toNat := by
  rw [chunks, chunksOfTop, splitOf, BitVec.toNat_ushiftRight, BitVec.toNat_ushiftRight, BitVec.extractLsb'_toNat,
    BitVec.extractLsb'_toNat]
  simp only [Nat.shiftRight_eq_div_pow, params, profileSrc]
  omega

theorem realOpen_32 (v : U32) : realOpen params v = some (unitReal params.r32KOpen v.toNat) := by
  rw [realOpen, if_pos rfl, BitVec.setWidth_eq]
  exact f64Mul_f64OfNat (by omega) (by decide) (by decide)

theorem realClosed_32 (v : U32) : realClosed params v = some (unitReal params.r32KClosed v.toNat) := by
  rw [realClosed, if_pos rfl, BitVec.setWidth_eq]
  exact f64Mul_f64OfNat (by omega) (by decide) (by decide)

section

variable {w : Nat} (hw : w ≠ 32) (v : BitVec w)
include hw

theorem realOpen_of_ne : realOpen params v = some (unitReal params.r53KOpen (splitOf (topWord v).toNat)) := by
  rw [realOpen, if_neg hw, chunks_eq]
  exact f64Mul_f64OfNat (splitOf_lt (topWord v).isLt) (by decide) (by decide)

theorem realClosed_of_ne : realClosed params v = some (unitReal params.r53KClosed (splitOf (topWord v).toNat)) := by
  rw [realClosed, if_neg hw, chunks_eq]
  exact f64Mul_f64OfNat (splitOf_lt (topWord v).isLt) (by decide) (by decide)

end

end Sys2Proof.Machine

namespace Sys2Proof.Laws

open Sys2Proof.Machine Sys2Proof.Safety

/-! ### Reals of raw outputs -/

theorem width_cases (e : Engine) : width e = 32 ∨ width e = 64 ∨ width e = 128 := by cases e <;> decide

/-- The first result word of a raw output: the low bits of the word where there is one, the high word of two. -/
def firstWord {w : Nat} (v : BitVec w) : U64 := (emitWords v).getD 0 0#64

theorem firstWord_32 (v : U32) : (firstWord v).toNat = v.toNat := by
  rw [firstWord, emitWords_32, List.getD_cons_zero, BitVec.toNat_setWidth_of_le (by decide)]

theorem firstWord_of_ne {w : Nat} (hw : w = 64 ∨ w = 128) (v : BitVec w) : firstWord v = topWord v := by
  obtain rfl | rfl := hw
  · rw [firstWord, emitWords_64, List.getD_cons_zero, topWord, BitVec.extractLsb'_eq_self]
  · rfl

/-- The open real of a raw output is exact. -/
theorem realOpen_openOf {w : Nat} (hw : w = 32 ∨ w = 64 ∨ w = 128) (v : BitVec w) :
    ∃ r, realOpen params v = some r ∧ OpenOf w (firstWord v) r := by
  obtain rfl | hw := hw
  · obtain ⟨hfin, hmag⟩ := unitReal_exact (n := v.toNat) (i := 32) f64Mag_r32KOpen rfl (by omega)
    refine ⟨_, realOpen_32 v, hfin, ?_⟩
    rw [if_pos rfl, hmag, firstWord_32]
  · have hne : w ≠ 32 := by omega
    obtain ⟨hfin, hmag⟩ := unitReal_exact (i := 53) f64Mag_r53KOpen rfl (splitOf_lt (topWord v).isLt).le
    refine ⟨_, realOpen_of_ne hne v, hfin, ?_⟩
    rw [if_neg hne, hmag, firstWord_of_ne hw]

/-- The closed real of a raw output is correctly rounded. -/
theorem realClosed_closedOf {w : Nat} (hw : w = 32 ∨ w = 64 ∨ w = 128) (v : BitVec w) :
    ∃ r, realClosed params v = some r ∧ ClosedOf w (firstWord v) r := by
  obtain rfl | hw := hw
  · refine ⟨_, realClosed_32 v, ?_⟩
    rw [ClosedOf, if_pos rfl, firstWord_32]
    exact unitReal_nearestEven f64Mag_r32KClosed rfl ((unitReal_r32KClosed_le v.isLt).trans_lt (by decide))
  · have hne : w ≠ 32 := by omega
    refine ⟨_, realClosed_of_ne hne v, ?_⟩
    rw [ClosedOf, if_neg hne, firstWord_of_ne hw]
    exact unitReal_nearestEven f64Mag_r53KClosed rfl
      ((unitReal_r53KClosed_le (splitOf_lt (topWord v).isLt)).trans_lt (by decide))

/-! ### The results of a generation command -/

theorem length_emitWords {w : Nat} (v : BitVec w) : (emitWords v).length = if w = 128 then 2 else 1 := by
  unfold emitWords
  split <;> rfl

/-- Raw outputs of one width have equally many result words. -/
theorem length_flatMap_emitWords {w : Nat} (vs : List (BitVec w)) :
    (vs.flatMap emitWords).length = (if w = 128 then 2 else 1) * vs.length := by
  simp only [List.length_flatMap, length_emitWords, List.map_const', List.sum_replicate, smul_eq_mul, Nat.mul_comm]

theorem getD_flatMap_emitWords {w : Nat} (vs : List (BitVec w)) {k : Nat} (hk : k < vs.length) :
    (vs.flatMap emitWords).getD ((if w = 128 then 2 else 1) * k) 0#64 = firstWord vs[k] := by
  induction vs generalizing k with
  | nil => simp at hk
  | cons v vs ih =>
    rw [List.flatMap_cons]
    have hlen := length_emitWords v
    cases k with
    | zero =>
      rw [Nat.mul_zero, List.getD_append _ _ _ _ (by rw [hlen]; split <;> decide)]
      rfl
    | succ k =>
      rw [Nat.mul_succ, List.getD_append_right _ _ _ _ (by omega), hlen, Nat.add_sub_cancel]
      exact ih (Nat.lt_of_succ_lt_succ hk)

theorem getD_packReals {w : Nat} (conv : BitVec w → Option U64) (vs : List (BitVec w)) (draw : Nat) {k : Nat}
    (hk : k < vs.length) :
    ∃ j, (packReals (vs.map conv) draw).1.getD k 0#64 = (conv vs[k]).getD (quietNaN (Config.freeNaN j)) := by
  obtain ⟨j, hj⟩ := packReals_getElem (vs.map conv) draw k (by simpa using hk)
  exact ⟨j, by rw [List.getD_eq_getElem?_getD, hj, Option.getD_some, List.getElem_map]⟩

section

variable {e : Engine} {n : Nat} {s : State}

/-- A generation command on an engine that is ready completes. -/
theorem exec_completed {i : Instr} {fin : Finish e} (hi : exec i s = generationOutcome e n fin s) (hs : Ready e s) :
    exec i s = .next (generated e n fin s) ∧ Completed (resultsOf e n fin s) e s (generated e n fin s) :=
  ⟨hi.trans (generationOutcome_of_ready hs n fin), generated_completed e n fin s⟩

/-- How a command finishes leaves no trace in the block (R250). -/
theorem generated_toBlock (fin fin' : Finish e) : (generated e n fin s).toBlock = (generated e n fin' s).toBlock := rfl

theorem length_resultsOf_raw : (resultsOf e n (rawFinish e) s).length = rawWords e * n :=
  (length_flatMap_emitWords _).trans (by rw [runN_length, rawWords])

theorem length_resultsOf_real (conv : BitVec (width e) → Option U64) :
    (resultsOf e n (realFinish e conv) s).length = n := by
  simp [resultsOf, realFinish]

/-- The `k`-th raw output of an engine, and what GEN and a real command make of it. -/
theorem exists_rawOutput {k : Nat} (hk : k < n) :
    ∃ v : BitVec (width e), (resultsOf e n (rawFinish e) s).getD (rawWords e * k) 0#64 = firstWord v ∧
      ∀ conv, ∃ j, (resultsOf e n (realFinish e conv) s).getD k 0#64 =
        (conv v).getD (quietNaN (Config.freeNaN j)) := by
  have hlen : k < (runN (stepEngine e) n (getEngine e s.toBlock)).1.length := by rwa [runN_length]
  exact ⟨_, getD_flatMap_emitWords _ hlen, fun conv => getD_packReals conv _ _ hlen⟩

/-- GEN beside a real command whose map answers no NaN: the same block, and of each raw output the word the map makes
of it. -/
theorem exec_gen_and_real {i : Instr} {rep : Repeat} {conv : BitVec (width e) → Option U64} {P : U64 → U64 → Prop}
    (hi : exec i s = generationOutcome e (repeatCount rep) (realFinish e conv) s)
    (hconv : ∀ v, ∃ r, conv v = some r ∧ P (firstWord v) r) (hs : Ready e s) :
    ∃ t u raws reals, exec (buildGen rep e) s = .next t ∧ exec i s = .next u ∧ t.toBlock = u.toBlock ∧
      Completed raws e s t ∧ Completed reals e s u ∧ reals.length = repeatCount rep ∧
      raws.length = rawWords e * repeatCount rep ∧
      ∀ k, k < repeatCount rep → P (raws.getD (rawWords e * k) 0#64) (reals.getD k 0#64) := by
  obtain ⟨hgen, hraws⟩ := exec_completed (exec_gen rep e s) hs
  obtain ⟨hreal, hreals⟩ := exec_completed hi hs
  refine ⟨_, _, _, _, hgen, hreal, generated_toBlock _ _, hraws, hreals, length_resultsOf_real conv,
    length_resultsOf_raw, fun k hk => ?_⟩
  obtain ⟨v, hraw, hword⟩ := exists_rawOutput (e := e) (s := s) hk
  obtain ⟨r, hr, hP⟩ := hconv v
  obtain ⟨j, hj⟩ := hword conv
  rw [hraw, hj, hr]
  exact hP

end

end Sys2Proof.Laws

namespace Sys2Proof.Proofs

open Sys2Proof.Machine Sys2Proof.Safety Sys2Proof.Laws

/-- Settles O54: the product does not exceed the exact difference, so the exact sum lies between the bounds. -/
theorem rangeMapStaysBetweenItsBounds : Obligations.RangeMapStaysBetweenItsBounds :=
  fun _ _ _ _ hlo hhi hsub hd hr hle => rangeMap_between hlo hhi hsub hd hr hle

/-- Settles O53: the product is a zero, and adding it changes −0 alone. -/
theorem rangeMapAtTheLowerBound : Obligations.RangeMapAtTheLowerBound := by
  refine ⟨fun lo hi d hlo _ hsub hd => ?_, fun lo r hlo hr => ?_⟩
  · rw [rangeMap_of_eq hsub (f64Mul_zero_right hd), f64Add_f64Pack_zero hlo]
  · rw [rangeMap_of_eq (f64Sub_self hlo) (f64Mul_zero_left hr), f64Add_f64Pack_zero hlo]
    simp only [and_true]

/-- Settles O55: an infinite difference times 0 is a NaN, and times a positive number it is the infinity again. -/
theorem rangeMapOutsideTheFinite : Obligations.RangeMapOutsideTheFinite := by
  refine ⟨fun lo hi r h => ?_, fun lo hi h => ?_, fun lo hi r hlo h hr hne => ?_, quietNaN_isQuiet⟩
  · rw [rangeMap_some, f64Sub_of_isNaN h.symm, Option.bind_none]
  · rw [rangeMap_some, h, Option.bind_some, f64Mul_inf_zero, Option.bind_none]
  · rw [rangeMap_of_eq h (f64Mul_inf_pos hr hne), f64Add_inf hlo]

/-- Settles O50: the real of the largest number is the bound. -/
theorem openRealsAreBelowOne : Obligations.OpenRealsAreBelowOne := by
  have h53 : ∀ {w : Nat}, w ≠ 32 → ∀ v : BitVec w,
      ∃ r, realOpen params v = some r ∧ r.toNat ≤ 0x3FEFFFFFFFFFFFFF := fun hw v =>
    ⟨_, realOpen_of_ne hw v, unitReal_r53KOpen_le (splitOf_lt (topWord v).isLt)⟩
  exact ⟨fun v => ⟨_, realOpen_32 v, unitReal_r32KOpen_le v.isLt⟩, h53 (by decide), h53 (by decide)⟩

/-- Settles O51: the real of the largest number is 1.0. -/
theorem closedRealsAreAtMostOne : Obligations.ClosedRealsAreAtMostOne := by
  have h53 : ∀ {w : Nat}, w ≠ 32 → ∀ v : BitVec w,
      ∃ r, realClosed params v = some r ∧ r.toNat ≤ 0x3FF0000000000000 := fun hw v =>
    ⟨_, realClosed_of_ne hw v, unitReal_r53KClosed_le (splitOf_lt (topWord v).isLt)⟩
  refine ⟨fun v => ⟨_, realClosed_32 v, unitReal_r32KClosed_le v.isLt⟩, h53 (by decide), h53 (by decide), ?_⟩
  decide +kernel

/-- Settles O47: the product with a power of two is exact. -/
theorem genrReturnsOpenReals : Obligations.GenrReturnsOpenReals :=
  fun e rep s hs => exec_gen_and_real (exec_genr rep e s) (realOpen_openOf (width_cases e)) hs

/-- Settles O48: the product is rounded once. -/
theorem genrcReturnsClosedReals : Obligations.GenrcReturnsClosedReals :=
  fun e rep s hs => exec_gen_and_real (exec_genrc rep e s) (realClosed_closedOf (width_cases e)) hs

/-- Settles O49: GENRR maps the word GENR returns, and draws the bits of a NaN. -/
theorem genrrReturnsTheAffineMap : Obligations.GenrrReturnsTheAffineMap := by
  intro e rep lo hi s hs
  obtain ⟨hgenr, hreals⟩ := exec_completed (exec_genr rep e s) hs
  obtain ⟨hgenrr, hranged⟩ := exec_completed (exec_genrr rep lo hi e s) hs
  refine ⟨_, _, _, _, hgenr, hgenrr, generated_toBlock _ _, hreals, hranged, length_resultsOf_real _, fun k hk => ?_⟩
  obtain ⟨v, -, hword⟩ := exists_rawOutput (e := e) (s := s) hk
  obtain ⟨r, hr, -⟩ := realOpen_openOf (width_cases e) v
  obtain ⟨_, hreal⟩ := hword (realOpen params)
  obtain ⟨j, hrange⟩ := hword (realRange params lo hi)
  rw [hreal, hrange, realRange, hr, Option.getD_some, rangeMap_some]
  split
  · next h => rw [h, Option.getD_some]
  · next h =>
    rw [h, Option.getD_none]
    exact quietNaN_isQuiet _

/-- Refutes O52 at w = 64: the split drops bits 36 to 32, so the carry from 2^32 − 1 to 2^32 is lost, and the real
falls from (2^26 − 1) / 2^53 to 0. -/
theorem not_realsAreMonotone : ¬ Obligations.RealsAreMonotone := by
  rintro ⟨-, h64, -⟩
  have hopen : realOpen params 0xFFFFFFFF#64 = some 0x3E3FFFFFF8000000#64 := by decide +kernel
  have hopen' : realOpen params 0x100000000#64 = some 0#64 := by decide +kernel
  have hclosed : realClosed params 0xFFFFFFFF#64 = some 0x3E3FFFFFF8000002#64 := by decide +kernel
  have hclosed' : realClosed params 0x100000000#64 = some 0#64 := by decide +kernel
  obtain ⟨hle, -⟩ := h64 _ _ (by decide) _ _ _ _ hopen hopen' hclosed hclosed'
  exact absurd hle (by decide)

end Sys2Proof.Proofs
end

section
/-! SUPPORT. The STATUS register read back (10_state.md R31): each field from the place where it stands; and the
settled statement of 44_control.md. -/

namespace Sys2Proof.Machine

/-- A field of a word, by the number the word stands for. -/
theorem extractLsb'_eq_iff_toNat {w start len : Nat} {x : BitVec w} {y : BitVec len} :
    x.extractLsb' start len = y ↔ x.toNat / 2 ^ start % 2 ^ len = y.toNat := by
  rw [BitVec.toNat_eq, BitVec.extractLsb'_toNat, Nat.shiftRight_eq_div_pow]

/-- The fields of STATUS, and the places that read 0. -/
theorem statusWord_fields (b : Block) :
    (statusWord b).extractLsb' 0 1 = BitVec.ofBool b.faults.faulted ∧
      (statusWord b).extractLsb' 1 3 = 0#3 ∧
      (statusWord b).extractLsb' 4 4 = b.faults.firstCause ∧
      (statusWord b).extractLsb' 8 4 = b.faults.lastCause ∧
      (statusWord b).extractLsb' 12 4 = 0#4 ∧
      (statusWord b).extractLsb' 16 12 = seededField b ∧
      (statusWord b).extractLsb' 28 36 = 0#36 := by
  have hfaulted := Bool.toNat_lt b.faults.faulted
  have hfirst := b.faults.firstCause.isLt
  have hlast := b.faults.lastCause.isLt
  have hseeded := (seededField b).isLt
  simp only [extractLsb'_eq_iff_toNat, toNat_statusWord, BitVec.toNat_ofBool, BitVec.toNat_ofNat]
  omega

theorem toNat_engineCode_lt (e : Engine) : (engineCode e).toNat < 12 := by
  cases e <;> decide

/-- Bit e of STATUS.SEEDED is SEEDED(e). -/
theorem getLsbD_seededField (b : Block) (e : Engine) :
    (seededField b).getLsbD (engineCode e).toNat = seeded b e := by
  rw [seededField]
  repeat rw [BitVec.getLsbD_append]
  cases e <;> simp [engineCode, seededBit]

end Sys2Proof.Machine

namespace Sys2Proof.Proofs

open Sys2Proof.Machine

/-- Settles O17: the response's word is the register, whose fields are read back from their places. -/
theorem statusReturnsItsFields : Obligations.StatusReturnsItsFields := by
  intro s
  obtain ⟨hfaulted, hlow, hfirst, hlast, hmid, hseeded, hhigh⟩ := statusWord_fields s.toBlock
  refine ⟨statusWord s.toBlock, rfl, ?_, hfirst, hlast, fun e => ?_, hlow, hmid, hhigh⟩
  · have hbit := congrArg (BitVec.getLsbD · 0) hfaulted
    simpa [BitVec.getLsbD_extractLsb'] using hbit
  · rw [← getLsbD_seededField, ← hseeded, BitVec.getLsbD_extractLsb']
    simp [toNat_engineCode_lt]

end Sys2Proof.Proofs
end

section
/-! SUPPORT. Exceptions (60_exceptions.md): a command that answers a next state completes or takes one fault (R344), a
generation command on an engine that is not seeded faults (R342 check 7), one on an engine that is ready completes
(R343); and the statements about them. -/

namespace Sys2Proof.Laws

open Sys2Proof.Machine Sys2Proof.Safety

/-! ### Completing or taking one fault (R344) -/

/-- A command that answers a next state returns OK and leaves STATUS's stored fields, or only takes a fault, whose code
is one of checks 6 and 7's. -/
theorem exec_completes_or_faults {i : Instr} {s t : State} (h : exec i s = .next t) :
    (∃ results, t.responses = s.responses ++ [⟨0#4, results⟩] ∧ t.faults = s.faults) ∨
      ∃ c, 5 ≤ (causeCode c).toNat ∧ t = takeFault c s := by
  obtain ⟨-, rfl⟩ | ⟨e, -, v, -, rfl⟩ | ⟨e, rep, -, -, fin, rfl⟩ | ⟨c, hc, rfl⟩ := exec_next h
  · exact .inl ⟨_, rfl, rfl⟩
  · obtain ⟨hresp, -, hfaults, -⟩ := putEngine_completed e v s []
    exact .inl ⟨_, hresp, hfaults⟩
  · obtain ⟨hresp, -, hfaults, -⟩ := generated_completed e (repeatCount rep) fin s
    exact .inl ⟨_, hresp, hfaults⟩
  · refine .inr ⟨c, ?_, rfl⟩
    obtain rfl | rfl | rfl := hc <;> decide

/-- So does a step on a transaction, whose fault may also be one of the decoder's. -/
theorem step_completes_or_faults {s t : State} {w : U32} {ops : List U64} {rest : List HostAction}
    (hp : s.pending = .command w ops :: rest) (h : step s = .next t) :
    (∃ results, t.responses = s.responses ++ [⟨0#4, results⟩] ∧ t.faults = s.faults) ∨
      ∃ c, t = takeFault c (s.setPending rest) := by
  rw [step_command hp] at h
  cases hd : decode w ops <;> rw [hd] at h
  case instr i => exact (exec_completes_or_faults h).imp_right fun ⟨c, _, hc⟩ => ⟨c, hc⟩
  case fault c =>
    cases h
    exact .inr ⟨c, rfl⟩
  case wrongOperandCount => cases h

/-! ### Generation on an engine that is not seeded (R342 check 7) -/

/-- An MT64 that is not seeded has its cursor at the sentinel, where the assertion of MT_Next is not made. -/
theorem asserted_of_unseeded {e : Engine} {s : State} (h : seeded s.toBlock e = false)
    (k : Host.Outcome State Fault Refusal) : asserted e s k = k := by
  by_cases he : e = .mt64
  · subst he
    have hidx : s.mt64.idx.toNat = params.mtSentinel := not_not.1 (of_decide_eq_false h)
    rw [asserted, if_pos rfl, mtAsserted, if_pos (.inr hidx)]
  · exact if_neg he

theorem generationOutcome_of_unseeded {e : Engine} {s : State} (h : seeded s.toBlock e = false) (n : Nat)
    (fin : Finish e) : generationOutcome e n fin s = .next (takeFault .unseeded s) := by
  rw [generationOutcome, asserted_of_unseeded h, h]
  rfl

/-! ### The draws of a real command (43_real.md R257) -/

/-- A real command whose map answers no NaN draws nothing. -/
theorem generated_draws_of_some {e : Engine} {conv : BitVec (width e) → Option U64}
    (hconv : ∀ v, ∃ r, conv v = some r) (n : Nat) (s : State) :
    (generated e n (realFinish e conv) s).draws = s.draws := by
  choose f hf using hconv
  have hmap : conv = some ∘ f := funext hf
  rw [generated_draws, realFinish, hmap, ← List.map_map, packReals_map_some]

end Sys2Proof.Laws

namespace Sys2Proof.Proofs

open Sys2Proof.Machine Sys2Proof.Safety Sys2Proof.Laws

/-- Settles O13: a fault records its cause and nothing else, and its code is in R341's range. -/
theorem faultsChangeOnlyStatus : Obligations.FaultsChangeOnlyStatus := by
  refine ⟨fun s t w ops rest hp ht => ?_, fun i s t ht => ?_⟩
  · obtain hok | ⟨c, rfl⟩ := step_completes_or_faults hp ht
    · exact .inl hok
    · exact .inr ⟨_, (causeCode_range c).1, (causeCode_range c).2, takeFault_faulted c _⟩
  · obtain hok | ⟨c, hc, rfl⟩ := exec_completes_or_faults ht
    · exact .inl hok
    · exact .inr ⟨_, hc, (causeCode_range c).2, takeFault_faulted c s⟩

/-- Settles O18: check 7 is made before the calls are counted, so no repeat form passes it. -/
theorem unseededGenerationFaults : Obligations.UnseededGenerationFaults := by
  intro i e rep s hi hs
  obtain ⟨fin, hfin, -⟩ := exec_generation hi
  exact ⟨_, (hfin s).trans (generationOutcome_of_unseeded hs _ fin), takeFault_faulted .unseeded s⟩

/-- Settles O33: each command generates; only GENRR's map can answer a NaN, and so draw. -/
theorem generationCompletes : Obligations.GenerationCompletes := by
  intro e rep lo hi s hs
  obtain ⟨hgen, hraws⟩ := exec_completed (exec_gen rep e s) hs
  obtain ⟨hgenr, hopens⟩ := exec_completed (exec_genr rep e s) hs
  obtain ⟨hgenrc, hcloseds⟩ := exec_completed (exec_genrc rep e s) hs
  obtain ⟨hgenrr, hranged⟩ := exec_completed (exec_genrr rep lo hi e s) hs
  refine ⟨⟨_, _, hgen, hraws, generated_draws _ _ _ s, length_resultsOf_raw, seeded_generated hs _ _⟩,
    ⟨_, _, hgenr, hopens, ?_, length_resultsOf_real _, seeded_generated hs _ _⟩,
    ⟨_, _, hgenrc, hcloseds, ?_, length_resultsOf_real _, seeded_generated hs _ _⟩,
    ⟨_, _, hgenrr, hranged, length_resultsOf_real _, seeded_generated hs _ _⟩⟩
  · exact generated_draws_of_some (fun v => (realOpen_openOf (width_cases e) v).imp fun _ h => h.1) _ s
  · exact generated_draws_of_some (fun v => (realClosed_closedOf (width_cases e) v).imp fun _ h => h.1) _ s

/-- Settles O7: with no action to take, the step's first arm answers the state it was given. -/
theorem stepIdlesAndHoldsItsState : Obligations.StepIdlesAndHoldsItsState :=
  fun _ hp => step_idle hp

end Sys2Proof.Proofs
end

section
/-! SUPPORT. Reset and reseeding (70_reset_and_hazards.md): the block after reset (R381), FAULTED and the responses over
a step (R387), what a seeding command leaves of its engine (R383); and the statements about them. -/

namespace Sys2Proof.Laws

open Sys2Proof.Machine Sys2Proof.Safety

/-! ### The block after reset (R381, 10_state.md R37) -/

@[simp] theorem seeded_reset (e : Engine) : seeded Block.reset e = false := by cases e <;> rfl

theorem mt64_idx_reset : Block.reset.mt64.idx = 313#9 := rfl

/-- No bit of STATUS is set: FAULTED and both causes are 0, and no engine is seeded. -/
theorem statusWord_reset : statusWord Block.reset = 0#64 := by
  simp only [statusWord, seededField, seededBit, seeded_reset]
  rfl

/-! ### FAULTED and the responses (R387) -/

/-- Some response is not OK. -/
def AnyNotOk (s : State) : Prop := ∃ r ∈ s.responses, r.status ≠ 0#4

theorem anyNotOk_of_append_ok {s t : State} {results : List U64}
    (h : t.responses = s.responses ++ [⟨0#4, results⟩]) : AnyNotOk t ↔ AnyNotOk s := by
  simp [AnyNotOk, h, or_and_right, exists_or]

theorem anyNotOk_takeFault (c : Cause) (s : State) : AnyNotOk (takeFault c s) :=
  ⟨⟨causeCode c, []⟩, by simp, causeCode_ne_ok c⟩

/-- A step that is no reset keeps the two together: it idles, adds an OK response and leaves FAULTED, or adds a fault's
response and sets FAULTED. -/
theorem faulted_iff_anyNotOk_step {s t : State} (ht : step s = .next t) (hr : s.pending.head? ≠ some .reset)
    (h : s.faults.faulted = true ↔ AnyNotOk s) : t.faults.faulted = true ↔ AnyNotOk t := by
  match hp : s.pending with
  | [] =>
    cases (step_idle hp).symm.trans ht
    exact h
  | .reset :: rest => simp [hp] at hr
  | .command w ops :: rest =>
    obtain ⟨results, hresponses, hfaults⟩ | ⟨c, rfl⟩ := step_completes_or_faults hp ht
    · rw [hfaults, anyNotOk_of_append_ok hresponses]
      exact h
    · exact iff_of_true (recordFault_faulted c _) (anyNotOk_takeFault c _)

/-! ### What a seeding command leaves of its engine (R383) -/

/-- A seeding command that has once completed with OK puts one value, which its operands alone fix, in every state. -/
theorem exec_of_seeding_ok {i : Instr} {e : Engine} {s t : State} (hi : seeding i = some e) (ht : exec i s = .next t)
    (hok : (lastResponse t).map Response.status = some 0#4) :
    ∃ v : EngineState e, ∀ s, exec i s = .next ((putEngine e v s).respond 0#4 []) := by
  obtain ⟨v, hv, -⟩ | ⟨c, -, hc⟩ | href := exec_seeding hi
  · exact ⟨v, hv⟩
  · cases (hc s).symm.trans ht
    rw [lastResponse_takeFault] at hok
    exact absurd (Option.some.inj hok) (causeCode_ne_ok c)
  · cases (href s).symm.trans ht

/-- Writing an engine's own value again changes nothing. -/
theorem putEngine_of_getEngine_eq {e : Engine} {v : EngineState e} {s : State} (h : getEngine e s.toBlock = v) :
    putEngine e v s = s := by
  rw [← h, putEngine_getEngine]

end Sys2Proof.Laws

namespace Sys2Proof.Proofs

open Sys2Proof.Machine Sys2Proof.Safety Sys2Proof.Laws

/-- Settles O8: the reset event answers `Block.reset` from every state. -/
theorem resetEventClearsTheBlock : Obligations.ResetEventClearsTheBlock := by
  intro s rest hp
  refine ⟨_, step_reset hp, seeded_reset, mt64_idx_reset, statusWord_reset, rfl, rfl, fun s' hp' t' ht' => ?_⟩
  cases (step_reset hp').symm.trans ht'
  rfl

/-- Settles O10: no engine is seeded after reset, so each generation command fails check 7. -/
theorem afterResetGenerationFaults : Obligations.AfterResetGenerationFaults :=
  ⟨statusWord_reset, mt64_idx_reset, fun i e rep hi =>
    ⟨seeded_reset e, unseededGenerationFaults i e rep State.reset hi (seeded_reset e)⟩⟩

/-- Settles O15: `AnyNotOk` is the statement's right-hand side. -/
theorem faultedShowsEveryFault : Obligations.FaultedShowsEveryFault :=
  fun _ _ => faulted_iff_anyNotOk_step

/-- Settles O25: the value the command puts is the same in both states and in the state it leaves. -/
theorem seedingForgetsTheEngine : Obligations.SeedingForgetsTheEngine := by
  intro i e s s' t t' hi ht ht' hok
  have hstatus : (lastResponse t).map Response.status = some 0#4 := by rw [hok]; rfl
  have hseeded := seeded_seeding hi ht hstatus
  obtain ⟨v, hv⟩ := exec_of_seeding_ok hi ht hstatus
  cases (hv s).symm.trans ht
  cases (hv s').symm.trans ht'
  obtain ⟨-, hothers, hfaults, -⟩ := putEngine_completed e v s []
  refine ⟨(sameEngine_iff e _ _).2 (by simp), hothers, hfaults, hseeded, _, hv _, ?_⟩
  rw [State.respond_toBlock, putEngine_of_getEngine_eq (by simp)]

end Sys2Proof.Proofs
end
